-- ==== Sys2Proof/Word.lean ====
section
/-! DEFINITION. The word types of the block (00_scope R10): every value is an unsigned field of a fixed width. -/

namespace Sys2Proof

/-- A byte, 0..255 (00_scope R10). -/
abbrev Byte := BitVec 8

/-- A measurement code, an unsigned 16-bit value, and every 16-bit operand (00_scope R10, 20_memory R81). -/
abbrev U16 := BitVec 16

/-- A bus command code, 11 bits (30_encoding R108, R112, R113). -/
abbrev CmdCode := BitVec 11

/-- A request word: OP in bits 31..24, CHIP in 23..16, ARG in 15..0 (30_encoding R101). -/
abbrev RequestWord := BitVec 32

/-- The CHIP field of a request word (30_encoding R101). -/
abbrev ChipField := BitVec 8

end Sys2Proof
end

