-- ==== Sys2Proof/Syntax.lean ====
section
/-! DEFINITION. The 42 requests of the request opcode map (30_encoding R114), one constructor per row of the opcode
table. A field carries exactly the bits the map gives the request, so every value of a field has an encoding; whether a
value is in range is a check of the request (30_encoding R103). -/

namespace Sys2Proof

/-- The two configuration registers of a chip (30_encoding R105). -/
inductive CfgReg where
  | a
  | b
  deriving DecidableEq, Repr

/-- Which copy a getter reads: the transmit bytes or the last received bytes (30_encoding R107, R114). -/
inductive Copy where
  | tx
  | rx
  deriving DecidableEq, Repr

/-- A request, with the operand fields of 30_encoding R114. `chip` is the CHIP field. -/
inductive Instr where
  /-- PEC_CALC, 40_pec15 R145. -/
  | pecCalc
  /-- SEND_CMD, 41_frame_builder R167: `c` is ARG[10:0]. -/
  | sendCmd (c : CmdCode)
  /-- WRITE_CFG, 41_frame_builder R168: `r` is ARG[0]. -/
  | writeCfg (r : CfgReg)
  /-- READ_CFG, 41_frame_builder R170: `r` is ARG[0]. -/
  | readCfg (r : CfgReg)
  /-- WRITE_COMM, 41_frame_builder R169. -/
  | writeComm
  /-- READ_COMM, 41_frame_builder R171. -/
  | readComm
  /-- WAKE_IDLE, 42_link_sequencer R206. -/
  | wakeIdle
  /-- WAKE_SLEEP, 42_link_sequencer R207. -/
  | wakeSleep
  /-- SET_REFON.A, 43_register_codec R222: `v` is ARG[0]. -/
  | setRefonA (chip : ChipField) (v : Bool)
  /-- SET_ADCOPT.A, 43_register_codec R223: `v` is ARG[0]. -/
  | setAdcoptA (chip : ChipField) (v : Bool)
  /-- SET_GPIO.A, 43_register_codec R224: `g` is ARG[2:0], `v` is ARG[8]. -/
  | setGpioA (chip : ChipField) (g : BitVec 3) (v : Bool)
  /-- SET_UV.A, 43_register_codec R225: `t` is ARG[15:0]. -/
  | setUvA (chip : ChipField) (t : U16)
  /-- SET_OV.A, 43_register_codec R226: `t` is ARG[15:0]. -/
  | setOvA (chip : ChipField) (t : U16)
  /-- SET_DCC.A, 43_register_codec R227: `c` is ARG[3:0], `v` is ARG[8]. -/
  | setDccA (chip : ChipField) (c : BitVec 4) (v : Bool)
  /-- SET_DCTO.A, 43_register_codec R228: `t` is ARG[3:0]. -/
  | setDctoA (chip : ChipField) (t : BitVec 4)
  /-- GET_CFG.A, 43_register_codec R229: `f` is ARG[3:0], `src` is ARG[7], `x` is ARG[11:8]. -/
  | getCfgA (chip : ChipField) (f : BitVec 4) (src : Copy) (x : BitVec 4)
  /-- SET_REFON.B, 43_register_codec R222. -/
  | setRefonB (chip : ChipField) (v : Bool)
  /-- SET_ADCOPT.B, 43_register_codec R223. -/
  | setAdcoptB (chip : ChipField) (v : Bool)
  /-- SET_GPIO.B, 43_register_codec R224. -/
  | setGpioB (chip : ChipField) (g : BitVec 3) (v : Bool)
  /-- SET_UV.B, 43_register_codec R225. -/
  | setUvB (chip : ChipField) (t : U16)
  /-- SET_OV.B, 43_register_codec R226. -/
  | setOvB (chip : ChipField) (t : U16)
  /-- SET_DCC.B, 43_register_codec R227. -/
  | setDccB (chip : ChipField) (c : BitVec 4) (v : Bool)
  /-- SET_DCTO.B, 43_register_codec R228. -/
  | setDctoB (chip : ChipField) (t : BitVec 4)
  /-- GET_CFG.B, 43_register_codec R229. -/
  | getCfgB (chip : ChipField) (f : BitVec 4) (src : Copy) (x : BitVec 4)
  /-- SET_COMM, 43_register_codec R233: `x` is ARG[10:8], `b` is ARG[7:0]. -/
  | setComm (chip : ChipField) (x : BitVec 3) (b : Byte)
  /-- GET_COMM, 43_register_codec R234: `x` is ARG[10:8], `src` is ARG[12]. -/
  | getComm (chip : ChipField) (x : BitVec 3) (src : Copy)
  /-- READ_CELL_ALL, 44_measurement_parser R272. -/
  | readCellAll
  /-- READ_CELL_ONE, 44_measurement_parser R273: `k` is ARG[2:0]. -/
  | readCellOne (k : BitVec 3)
  /-- READ_AUX_ALL, 44_measurement_parser R274. -/
  | readAuxAll
  /-- READ_AUX_ONE, 44_measurement_parser R275: `k` is ARG[2:0]. -/
  | readAuxOne (k : BitVec 3)
  /-- READ_STAT_ALL, 44_measurement_parser R276. -/
  | readStatAll
  /-- READ_STAT_ONE, 44_measurement_parser R277: `k` is ARG[2:0]. -/
  | readStatOne (k : BitVec 3)
  /-- GET_CELL, 44_measurement_parser R278: `slot` is ARG[4:0]. -/
  | getCell (chip : ChipField) (slot : BitVec 5)
  /-- GET_AUX, 44_measurement_parser R279: `slot` is ARG[3:0]. -/
  | getAux (chip : ChipField) (slot : BitVec 4)
  /-- GET_STAT, 44_measurement_parser R281: `f` is ARG[3:0]. -/
  | getStat (chip : ChipField) (f : BitVec 4)
  /-- GET_PEC_FLAG, 44_measurement_parser R280: `id` is ARG[3:0]. -/
  | getPecFlag (chip : ChipField) (id : BitVec 4)
  /-- GET_COUNTER, 44_measurement_parser R282: `id` is ARG[3:0]. -/
  | getCounter (chip : ChipField) (id : BitVec 4)
  /-- RESET_COUNTERS, 44_measurement_parser R284. -/
  | resetCounters
  /-- START_ADCV, 45_conversion R312: `md` is ARG[1:0], `dcp` is ARG[2], `ch` is ARG[6:4]. -/
  | startAdcv (md : BitVec 2) (dcp : Bool) (ch : BitVec 3)
  /-- START_ADAX, 45_conversion R313: `md` is ARG[1:0], `chg` is ARG[6:4]. -/
  | startAdax (md : BitVec 2) (chg : BitVec 3)
  /-- START_ADSTAT, 45_conversion R314: `md` is ARG[1:0], `chst` is ARG[6:4]. -/
  | startAdstat (md : BitVec 2) (chst : BitVec 3)
  /-- POLL, 45_conversion R315. -/
  | poll
  deriving DecidableEq, Repr

end Sys2Proof
end

