-- ==== Sys2Proof/Decode.lean ====
section
/-! DEFINITION. The decoder and the encoder of request words, from the request opcode map (30_encoding R101, R102, R103
(a), R114, R115). The decoder is total on every 32-bit word; the checks (b), (c), (d) of R103 are the requests' own. -/

namespace Sys2Proof

/-- Why a word is no request. -/
inductive DecodeError where
  /-- OP is not assigned (30_encoding R102, R116 (a)). -/
  | illegalOp (op : BitVec 8)
  /-- OP is assigned and a CHIP or ARG bit that the map does not give the request is 1 (30_encoding R103 (a)). -/
  | reservedBits
  deriving DecidableEq, Repr

/-- OP, CHIP and ARG put together (30_encoding R101). -/
def mkWord (op : BitVec 8) (chip : ChipField) (arg : BitVec 16) : RequestWord :=
  op ++ chip ++ arg

/-- OP of a word (30_encoding R101). -/
def opOf (w : RequestWord) : BitVec 8 :=
  w.extractLsb' 24 8

/-- Register A is 0 and register B is 1 in ARG[0] (30_encoding R105). -/
def regOfBit (b : Bool) : CfgReg :=
  if b then .b else .a

/-- The bit that names a configuration register (30_encoding R105). -/
def bitOfReg : CfgReg → Bool
  | .a => false
  | .b => true

/-- src: 0 is tx and 1 is rx (30_encoding R114). -/
def copyOfBit (b : Bool) : Copy :=
  if b then .rx else .tx

/-- The bit that names a copy (30_encoding R114). -/
def bitOfCopy : Copy → Bool
  | .tx => false
  | .rx => true

/-- Check (a) of 30_encoding R103: the bits the map does not give the request are 0. -/
def reserved (zero : Bool) (i : Instr) : Except DecodeError Instr :=
  if zero then .ok i else .error .reservedBits

/-- The request a word names (30_encoding R114). Every operand is a zero-extended field of the word (R115). -/
def decode (w : RequestWord) : Except DecodeError Instr :=
  match (opOf w).toNat with
  | 0x01 => reserved (w.extractLsb' 0 24 == 0) .pecCalc
  | 0x10 => reserved (w.extractLsb' 11 13 == 0) (.sendCmd (w.extractLsb' 0 11))
  | 0x11 => reserved (w.extractLsb' 1 23 == 0) (.writeCfg (regOfBit (w.getLsbD 0)))
  | 0x12 => reserved (w.extractLsb' 1 23 == 0) (.readCfg (regOfBit (w.getLsbD 0)))
  | 0x13 => reserved (w.extractLsb' 0 24 == 0) .writeComm
  | 0x14 => reserved (w.extractLsb' 0 24 == 0) .readComm
  | 0x20 => reserved (w.extractLsb' 0 24 == 0) .wakeIdle
  | 0x21 => reserved (w.extractLsb' 0 24 == 0) .wakeSleep
  | 0x30 => reserved (w.extractLsb' 1 15 == 0) (.setRefonA (w.extractLsb' 16 8) (w.getLsbD 0))
  | 0x31 => reserved (w.extractLsb' 1 15 == 0) (.setAdcoptA (w.extractLsb' 16 8) (w.getLsbD 0))
  | 0x32 => reserved (w.extractLsb' 9 7 == 0 && w.extractLsb' 3 5 == 0)
      (.setGpioA (w.extractLsb' 16 8) (w.extractLsb' 0 3) (w.getLsbD 8))
  | 0x33 => .ok (.setUvA (w.extractLsb' 16 8) (w.extractLsb' 0 16))
  | 0x34 => .ok (.setOvA (w.extractLsb' 16 8) (w.extractLsb' 0 16))
  | 0x35 => reserved (w.extractLsb' 9 7 == 0 && w.extractLsb' 4 4 == 0)
      (.setDccA (w.extractLsb' 16 8) (w.extractLsb' 0 4) (w.getLsbD 8))
  | 0x36 => reserved (w.extractLsb' 4 12 == 0) (.setDctoA (w.extractLsb' 16 8) (w.extractLsb' 0 4))
  | 0x37 => reserved (w.extractLsb' 12 4 == 0 && w.extractLsb' 4 3 == 0)
      (.getCfgA (w.extractLsb' 16 8) (w.extractLsb' 0 4) (copyOfBit (w.getLsbD 7)) (w.extractLsb' 8 4))
  | 0x38 => reserved (w.extractLsb' 1 15 == 0) (.setRefonB (w.extractLsb' 16 8) (w.getLsbD 0))
  | 0x39 => reserved (w.extractLsb' 1 15 == 0) (.setAdcoptB (w.extractLsb' 16 8) (w.getLsbD 0))
  | 0x3A => reserved (w.extractLsb' 9 7 == 0 && w.extractLsb' 3 5 == 0)
      (.setGpioB (w.extractLsb' 16 8) (w.extractLsb' 0 3) (w.getLsbD 8))
  | 0x3B => .ok (.setUvB (w.extractLsb' 16 8) (w.extractLsb' 0 16))
  | 0x3C => .ok (.setOvB (w.extractLsb' 16 8) (w.extractLsb' 0 16))
  | 0x3D => reserved (w.extractLsb' 9 7 == 0 && w.extractLsb' 4 4 == 0)
      (.setDccB (w.extractLsb' 16 8) (w.extractLsb' 0 4) (w.getLsbD 8))
  | 0x3E => reserved (w.extractLsb' 4 12 == 0) (.setDctoB (w.extractLsb' 16 8) (w.extractLsb' 0 4))
  | 0x3F => reserved (w.extractLsb' 12 4 == 0 && w.extractLsb' 4 3 == 0)
      (.getCfgB (w.extractLsb' 16 8) (w.extractLsb' 0 4) (copyOfBit (w.getLsbD 7)) (w.extractLsb' 8 4))
  | 0x40 => reserved (w.extractLsb' 11 5 == 0) (.setComm (w.extractLsb' 16 8) (w.extractLsb' 8 3) (w.extractLsb' 0 8))
  | 0x41 => reserved (w.extractLsb' 13 3 == 0 && w.extractLsb' 11 1 == 0 && w.extractLsb' 0 8 == 0)
      (.getComm (w.extractLsb' 16 8) (w.extractLsb' 8 3) (copyOfBit (w.getLsbD 12)))
  | 0x50 => reserved (w.extractLsb' 0 24 == 0) .readCellAll
  | 0x51 => reserved (w.extractLsb' 3 21 == 0) (.readCellOne (w.extractLsb' 0 3))
  | 0x52 => reserved (w.extractLsb' 0 24 == 0) .readAuxAll
  | 0x53 => reserved (w.extractLsb' 3 21 == 0) (.readAuxOne (w.extractLsb' 0 3))
  | 0x54 => reserved (w.extractLsb' 0 24 == 0) .readStatAll
  | 0x55 => reserved (w.extractLsb' 3 21 == 0) (.readStatOne (w.extractLsb' 0 3))
  | 0x58 => reserved (w.extractLsb' 5 11 == 0) (.getCell (w.extractLsb' 16 8) (w.extractLsb' 0 5))
  | 0x59 => reserved (w.extractLsb' 4 12 == 0) (.getAux (w.extractLsb' 16 8) (w.extractLsb' 0 4))
  | 0x5A => reserved (w.extractLsb' 4 12 == 0) (.getStat (w.extractLsb' 16 8) (w.extractLsb' 0 4))
  | 0x5B => reserved (w.extractLsb' 4 12 == 0) (.getPecFlag (w.extractLsb' 16 8) (w.extractLsb' 0 4))
  | 0x5C => reserved (w.extractLsb' 4 12 == 0) (.getCounter (w.extractLsb' 16 8) (w.extractLsb' 0 4))
  | 0x5F => reserved (w.extractLsb' 0 24 == 0) .resetCounters
  | 0x60 => reserved (w.extractLsb' 7 17 == 0 && w.extractLsb' 3 1 == 0)
      (.startAdcv (w.extractLsb' 0 2) (w.getLsbD 2) (w.extractLsb' 4 3))
  | 0x61 => reserved (w.extractLsb' 7 17 == 0 && w.extractLsb' 2 2 == 0)
      (.startAdax (w.extractLsb' 0 2) (w.extractLsb' 4 3))
  | 0x62 => reserved (w.extractLsb' 7 17 == 0 && w.extractLsb' 2 2 == 0)
      (.startAdstat (w.extractLsb' 0 2) (w.extractLsb' 4 3))
  | 0x63 => reserved (w.extractLsb' 0 24 == 0) .poll
  | _ => .error (.illegalOp (opOf w))

/-- The word of a request (30_encoding R114). -/
def encode : Instr → RequestWord
  | .pecCalc => mkWord 0x01 0 (0#16)
  | .sendCmd c => mkWord 0x10 0 (0#5 ++ c)
  | .writeCfg r => mkWord 0x11 0 (0#15 ++ BitVec.ofBool (bitOfReg r))
  | .readCfg r => mkWord 0x12 0 (0#15 ++ BitVec.ofBool (bitOfReg r))
  | .writeComm => mkWord 0x13 0 (0#16)
  | .readComm => mkWord 0x14 0 (0#16)
  | .wakeIdle => mkWord 0x20 0 (0#16)
  | .wakeSleep => mkWord 0x21 0 (0#16)
  | .setRefonA chip v => mkWord 0x30 chip (0#15 ++ BitVec.ofBool v)
  | .setAdcoptA chip v => mkWord 0x31 chip (0#15 ++ BitVec.ofBool v)
  | .setGpioA chip g v => mkWord 0x32 chip (0#7 ++ BitVec.ofBool v ++ 0#5 ++ g)
  | .setUvA chip t => mkWord 0x33 chip t
  | .setOvA chip t => mkWord 0x34 chip t
  | .setDccA chip c v => mkWord 0x35 chip (0#7 ++ BitVec.ofBool v ++ 0#4 ++ c)
  | .setDctoA chip t => mkWord 0x36 chip (0#12 ++ t)
  | .getCfgA chip f src x => mkWord 0x37 chip (0#4 ++ x ++ BitVec.ofBool (bitOfCopy src) ++ 0#3 ++ f)
  | .setRefonB chip v => mkWord 0x38 chip (0#15 ++ BitVec.ofBool v)
  | .setAdcoptB chip v => mkWord 0x39 chip (0#15 ++ BitVec.ofBool v)
  | .setGpioB chip g v => mkWord 0x3A chip (0#7 ++ BitVec.ofBool v ++ 0#5 ++ g)
  | .setUvB chip t => mkWord 0x3B chip t
  | .setOvB chip t => mkWord 0x3C chip t
  | .setDccB chip c v => mkWord 0x3D chip (0#7 ++ BitVec.ofBool v ++ 0#4 ++ c)
  | .setDctoB chip t => mkWord 0x3E chip (0#12 ++ t)
  | .getCfgB chip f src x => mkWord 0x3F chip (0#4 ++ x ++ BitVec.ofBool (bitOfCopy src) ++ 0#3 ++ f)
  | .setComm chip x b => mkWord 0x40 chip (0#5 ++ x ++ b)
  | .getComm chip x src => mkWord 0x41 chip (0#3 ++ BitVec.ofBool (bitOfCopy src) ++ 0#1 ++ x ++ 0#8)
  | .readCellAll => mkWord 0x50 0 (0#16)
  | .readCellOne k => mkWord 0x51 0 (0#13 ++ k)
  | .readAuxAll => mkWord 0x52 0 (0#16)
  | .readAuxOne k => mkWord 0x53 0 (0#13 ++ k)
  | .readStatAll => mkWord 0x54 0 (0#16)
  | .readStatOne k => mkWord 0x55 0 (0#13 ++ k)
  | .getCell chip slot => mkWord 0x58 chip (0#11 ++ slot)
  | .getAux chip slot => mkWord 0x59 chip (0#12 ++ slot)
  | .getStat chip f => mkWord 0x5A chip (0#12 ++ f)
  | .getPecFlag chip id => mkWord 0x5B chip (0#12 ++ id)
  | .getCounter chip id => mkWord 0x5C chip (0#12 ++ id)
  | .resetCounters => mkWord 0x5F 0 (0#16)
  | .startAdcv md dcp ch => mkWord 0x60 0 (0#9 ++ ch ++ 0#1 ++ BitVec.ofBool dcp ++ md)
  | .startAdax md chg => mkWord 0x61 0 (0#9 ++ chg ++ 0#2 ++ md)
  | .startAdstat md chst => mkWord 0x62 0 (0#9 ++ chst ++ 0#2 ++ md)
  | .poll => mkWord 0x63 0 (0#16)

/-- The instruction the decoder reads from the word `w` of `nbits` bits; bits above `nbits` are 0. A request word is one
32-bit word (30_encoding R100), so it needs no laying out. -/
def decodeTableWord (nbits w : Nat) : Option Instr :=
  match decode (BitVec.ofNat 32 (w % 2 ^ nbits)) with
  | .ok i => some i
  | .error _ => none

end Sys2Proof
end

