-- ==== Sys2Proof/Config.lean ====
section
/-! DEFINITION. The configuration record Cfg (00_scope R8) and the values the spec leaves free: the bus oracle
(20_memory R86) and the decay of the link between requests (42_link_sequencer R201). -/

namespace Sys2Proof

/-- The names of the CommandCatalog the block emits (30_encoding R112). -/
inductive CmdName where
  | wrcfga | wrcfgb | rdcfga | rdcfgb
  | rdcva | rdcvb | rdcvc | rdcvd | rdcve | rdcvf
  | rdauxa | rdauxb | rdauxc | rdauxd
  | rdstata | rdstatb
  | wrcomm | rdcomm | pladc
  deriving DecidableEq, Repr

/-- CMD_CODE: an 11-bit code for every name of 30_encoding R112. The type gives 00_scope R9 (c) and 30_encoding R113. -/
structure CmdTable where
  wrcfga : CmdCode
  wrcfgb : CmdCode
  rdcfga : CmdCode
  rdcfgb : CmdCode
  rdcva : CmdCode
  rdcvb : CmdCode
  rdcvc : CmdCode
  rdcvd : CmdCode
  rdcve : CmdCode
  rdcvf : CmdCode
  rdauxa : CmdCode
  rdauxb : CmdCode
  rdauxc : CmdCode
  rdauxd : CmdCode
  rdstata : CmdCode
  rdstatb : CmdCode
  wrcomm : CmdCode
  rdcomm : CmdCode
  pladc : CmdCode
  deriving DecidableEq, Repr

/-- The configuration record (00_scope R8): every field an argument of the model, fixed for the life of the block.
WAKE_SLEEP_BYTES is computed from `fSck` (42_link_sequencer R208), see `Machine.wakeSleepBytes`. The three folds are
tables with one 11-bit entry per operand combination in range (45_conversion R310, R311), so any fold into 0..0x7FF is
one; the type gives 00_scope R9 (d). -/
structure Cfg where
  /-- N, the chain length, 1..256. -/
  n : Nat
  /-- REV[i], the wiring-reversal flags, one per logical chip. -/
  rev : List Bool
  /-- CELL_SUBREGS, 1..6. -/
  cellSubregs : Nat
  /-- AUX_SUBREGS, 1..4. -/
  auxSubregs : Nat
  /-- STAT_SUBREGS, 1..2. -/
  statSubregs : Nat
  /-- F_SCK in Hz, at least 1. -/
  fSck : Nat
  /-- FILLER, the byte the filler primitive clocks out. -/
  filler : Byte
  /-- T_PAUSE_US, the pause after each wake-from-sleep burst. -/
  tPauseUs : Nat
  /-- POLL_MAX, 1..2^32-1. -/
  pollMax : Nat
  /-- T_POLL_ITER, for host-side reporting only, never read by the block. Its type is the model's choice: 00_scope R8
  allows any value and names no unit, and the model takes a natural number without one (DESIGN CHOICE, log 26). -/
  tPollIter : Nat
  /-- CNT_W, the width in bits of every error counter, at least 1. -/
  cntW : Nat
  /-- CMD_CODE. -/
  cmdCode : CmdTable
  /-- FOLD_ADCV, at index (md * 2 + dcp) * 7 + ch. -/
  foldAdcv : Vector CmdCode 56
  /-- FOLD_ADAX, at index md * 7 + chg. -/
  foldAdax : Vector CmdCode 28
  /-- FOLD_ADSTAT, at index md * 5 + chst. -/
  foldAdstat : Vector CmdCode 20
  /-- PEC_MAX_LEN, the longest PEC_CALC payload in bytes. -/
  pecMaxLen : Nat
  deriving DecidableEq, Repr

/-- Free value (20_memory R86, I6, I7): byte `j` of the answer to receive number `draw`, where the state's own script
of answers gives none. Nothing constrains it. -/
opaque Config.oracleByte (draw : Nat) (j : Nat) : Byte

/-- Free value (20_memory R85, R86, I7): the length of the answer to receive number `draw` of a transmit-and-receive,
where the state's own script of answers gives none. Nothing constrains it. -/
opaque Config.oracleLength (draw : Nat) : Nat

/-- Free value (42_link_sequencer R201, I9): how many steps the environment lowers the link in gap number `gap`, where
the state's own script of gaps gives none. Nothing constrains it. -/
opaque Config.freeDecay (gap : Nat) : Nat

end Sys2Proof
end

