-- ==== Sys2Proof/Machine/Defaults.lean ====
section
/-! DEFINITION. The spec's default values of the configuration parameters: the command codes (30_encoding R112), the
start-conversion folds (45_conversion R310), and one configuration that takes every default. -/

namespace Sys2Proof.Machine

/-- The code a table gives a name. -/
def cmdCodeOf (t : CmdTable) : CmdName → CmdCode
  | .wrcfga => t.wrcfga
  | .wrcfgb => t.wrcfgb
  | .rdcfga => t.rdcfga
  | .rdcfgb => t.rdcfgb
  | .rdcva => t.rdcva
  | .rdcvb => t.rdcvb
  | .rdcvc => t.rdcvc
  | .rdcvd => t.rdcvd
  | .rdcve => t.rdcve
  | .rdcvf => t.rdcvf
  | .rdauxa => t.rdauxa
  | .rdauxb => t.rdauxb
  | .rdauxc => t.rdauxc
  | .rdauxd => t.rdauxd
  | .rdstata => t.rdstata
  | .rdstatb => t.rdstatb
  | .wrcomm => t.wrcomm
  | .rdcomm => t.rdcomm
  | .pladc => t.pladc

/-- The default command codes of 30_encoding R112 (PRESUMED by the spec: general knowledge, 93 G1; log 3). -/
def defaultCmdTable : CmdTable where
  wrcfga := 0x001
  wrcfgb := 0x024
  rdcfga := 0x002
  rdcfgb := 0x026
  rdcva := 0x004
  rdcvb := 0x006
  rdcvc := 0x008
  rdcvd := 0x00A
  rdcve := 0x009
  rdcvf := 0x00B
  rdauxa := 0x00C
  rdauxb := 0x00E
  rdauxc := 0x00D
  rdauxd := 0x00F
  rdstata := 0x010
  rdstatb := 0x012
  wrcomm := 0x721
  rdcomm := 0x722
  pladc := 0x714

/-- Where the ADCV fold table holds the code of (md, dcp, ch). -/
def adcvIndex (md : BitVec 2) (dcp : Bool) (ch : BitVec 3) : Nat :=
  (md.toNat * 2 + dcp.toNat) * 7 + ch.toNat

/-- Where the ADAX fold table holds the code of (md, chg). -/
def adaxIndex (md : BitVec 2) (chg : BitVec 3) : Nat :=
  md.toNat * 7 + chg.toNat

/-- Where the ADSTAT fold table holds the code of (md, chst). -/
def adstatIndex (md : BitVec 2) (chst : BitVec 3) : Nat :=
  md.toNat * 5 + chst.toNat

/-- FOLD_ADCV of the configuration (00_scope R8). The operands of a request that passed its checks are in the table. -/
def foldAdcv (c : Cfg) (md : BitVec 2) (dcp : Bool) (ch : BitVec 3) : CmdCode :=
  c.foldAdcv[adcvIndex md dcp ch]?.getD 0

/-- FOLD_ADAX of the configuration (00_scope R8). -/
def foldAdax (c : Cfg) (md : BitVec 2) (chg : BitVec 3) : CmdCode :=
  c.foldAdax[adaxIndex md chg]?.getD 0

/-- FOLD_ADSTAT of the configuration (00_scope R8). -/
def foldAdstat (c : Cfg) (md : BitVec 2) (chst : BitVec 3) : CmdCode :=
  c.foldAdstat[adstatIndex md chst]?.getD 0

/-- The default FOLD_ADCV: 0x260 | md << 7 | dcp << 4 | ch (45_conversion R310). -/
def defaultAdcv (md dcp ch : Nat) : CmdCode :=
  0x260#11 ||| (BitVec.ofNat 11 md <<< 7) ||| (BitVec.ofNat 11 dcp <<< 4) ||| BitVec.ofNat 11 ch

/-- The default FOLD_ADAX: 0x460 | md << 7 | chg (45_conversion R310). -/
def defaultAdax (md chg : Nat) : CmdCode :=
  0x460#11 ||| (BitVec.ofNat 11 md <<< 7) ||| BitVec.ofNat 11 chg

/-- The default FOLD_ADSTAT: 0x468 | md << 7 | chst (45_conversion R310). -/
def defaultAdstat (md chst : Nat) : CmdCode :=
  0x468#11 ||| (BitVec.ofNat 11 md <<< 7) ||| BitVec.ofNat 11 chst

/-- One configuration with every default of the spec (00_scope R8 and the conventions of 95_test_vectors); the
parameters for which the spec gives none are DESIGN CHOICES (log 2): one chip, not reversed, and T_POLL_ITER = 1. -/
def defaultCfg : Cfg where
  n := 1
  rev := [false]
  cellSubregs := 6
  auxSubregs := 4
  statSubregs := 2
  fSck := 1000000
  filler := 0xFF
  tPauseUs := 10
  pollMax := 20000
  tPollIter := 1
  cntW := 32
  cmdCode := defaultCmdTable
  foldAdcv := Vector.ofFn fun j => defaultAdcv (j.val / 14) (j.val / 7 % 2) (j.val % 7)
  foldAdax := Vector.ofFn fun j => defaultAdax (j.val / 7) (j.val % 7)
  foldAdstat := Vector.ofFn fun j => defaultAdstat (j.val / 5) (j.val % 5)
  pecMaxLen := 65535

end Sys2Proof.Machine
end

