-- ==== Sys2Proof/Machine/Chain.lean ====
section
/-! DEFINITION. What follows from the configuration alone: the chain topology (41_frame_builder R160), the burst
length (42_link_sequencer R208), and when a configuration is well-formed (00_scope R9). -/

namespace Sys2Proof.Machine

/-- REV[i] of 00_scope R8. -/
def revOf (c : Cfg) (i : Nat) : Bool :=
  c.rev[i]?.getD false

/-- The physical position of logical chip `i` (41_frame_builder R160). -/
def pos (c : Cfg) (i : Nat) : Nat :=
  if revOf c i then c.n - 1 - i else i

/-- The logical chip at physical position `p`: the i with pos(i) = p (41_frame_builder R160). It exists and is unique
for a well-formed configuration and p below N; elsewhere the value is not used. -/
def chipAt (c : Cfg) (p : Nat) : Nat :=
  ((List.range c.n).find? fun i => pos c i == p).getD p

/-- WAKE_SLEEP_BYTES = ceil(300 * F_SCK / 8_000_000) (42_link_sequencer R208). -/
def wakeSleepBytes (c : Cfg) : Nat :=
  (300 * c.fSck + 7999999) / 8000000

/-- The six conditions of 00_scope R9. (c) and (d), and the one code per operand combination, hold by the types of
`Cfg`; (b) is REV[i] = REV[N-1-i] for every i. -/
def configWellFormed (c : Cfg) : Bool :=
  decide (1 ≤ c.n ∧ c.n ≤ 256) && decide (c.rev.length = c.n) &&
  (List.range c.n).all (fun i => revOf c i == revOf c (c.n - 1 - i)) &&
  decide (1 ≤ c.cellSubregs ∧ c.cellSubregs ≤ 6) &&
  decide (1 ≤ c.auxSubregs ∧ c.auxSubregs ≤ 4) &&
  decide (1 ≤ c.statSubregs ∧ c.statSubregs ≤ 2) &&
  decide (1 ≤ c.fSck) && decide (1 ≤ c.pollMax ∧ c.pollMax ≤ 4294967295) &&
  decide (1 ≤ c.cntW) && decide (1 ≤ wakeSleepBytes c)

end Sys2Proof.Machine
end

