-- ==== Sys2Proof/Machine/Pec.lean ====
section
/-! DEFINITION. The CRC-15 packet-error-code generator (40_pec15 R140 to R144), in the serial form and in the
flip-flop form. -/

namespace Sys2Proof.Machine

/-- POLY: the low 15 coefficients of the generator polynomial (40_pec15 R141). -/
def pecPoly : BitVec 15 := 0x4599

/-- The seed, 16 (40_pec15 R141). -/
def pecSeed : BitVec 15 := 0x0010

/-- One bit of the remainder loop (40_pec15 R141): feedback, shift, then the polynomial if the feedback is 1. -/
def pecBit (r : BitVec 15) (b : Bool) : BitVec 15 :=
  if b ^^ r.getLsbD 14 then (r <<< 1) ^^^ pecPoly else r <<< 1

/-- One byte, most-significant bit first (40_pec15 R141). -/
def pecByte (r : BitVec 15) (b : Byte) : BitVec 15 :=
  [7, 6, 5, 4, 3, 2, 1, 0].foldl (fun r i => pecBit r (b.getLsbD i)) r

/-- PEC15(L) (40_pec15 R141): every use starts from the seed (R140). -/
def pec15 (bytes : List Byte) : BitVec 15 :=
  bytes.foldl pecByte pecSeed

/-- PEC16(L): the remainder shifted left by one, bit 0 zero (40_pec15 R143). -/
def pec16 (bytes : List Byte) : BitVec 16 :=
  (pec15 bytes).setWidth 16 <<< 1

/-- The two PEC bytes, high byte first (40_pec15 R143, 20_memory R83). -/
def pecBytes (bytes : List Byte) : List Byte :=
  [(pec16 bytes).extractLsb' 8 8, (pec16 bytes).extractLsb' 0 8]

/-- PEC_OK(D, h, l): all 16 bits agree (40_pec15 R144). -/
def pecOk (data : List Byte) (h l : Byte) : Bool :=
  pec16 data == ((h.setWidth 16 <<< 8) ||| l.setWidth 16)

/-- The flip-flops of 40_pec15 R142 after one input bit: entry j is P'[j]. -/
def pecFlops (p : Vector Bool 15) (din : Bool) : Vector Bool 15 :=
  let in0 := din ^^ p[14]
  #v[in0, p[0], p[1], in0 ^^ p[2], in0 ^^ p[3], p[4], p[5], in0 ^^ p[6], in0 ^^ p[7], p[8], in0 ^^ p[9], p[10], p[11],
    p[12], in0 ^^ p[13]]

/-- The flip-flops right after the reset to 0x0010 at the start of each PEC (40_pec15 R142). -/
def pecFlopsSeed : Vector Bool 15 :=
  Vector.ofFn fun j => j.val == 4

/-- One byte through the flip-flop form, most-significant bit first (40_pec15 R142). -/
def pecFlopsByte (p : Vector Bool 15) (b : Byte) : Vector Bool 15 :=
  [7, 6, 5, 4, 3, 2, 1, 0].foldl (fun p i => pecFlops p (b.getLsbD i)) p

/-- The flip-flops after a whole byte list (40_pec15 R142). -/
def pecFlopsRun (bytes : List Byte) : Vector Bool 15 :=
  bytes.foldl pecFlopsByte pecFlopsSeed

end Sys2Proof.Machine
end

