-- ==== Sys2Proof/Machine/Frames.lean ====
section
/-! DEFINITION. The bus frames (30_encoding R108 to R111, 41_frame_builder R162, R163) and the groups of a read
response (41_frame_builder R166). -/

namespace Sys2Proof.Machine

/-- CMD0 then CMD1 (20_memory R82). -/
def commandBytes (c : CmdCode) : List Byte :=
  [(c.extractLsb' 8 3).setWidth 8, c.extractLsb' 0 8]

/-- CF(c), the 4-byte command frame (30_encoding R108). -/
def commandFrame (c : CmdCode) : List Byte :=
  commandBytes c ++ pecBytes (commandBytes c)

/-- One chip's 8-byte block of a write frame: its payload bytes, then their PEC (41_frame_builder R163). -/
def writeBlock (data : List Byte) : List Byte :=
  data ++ pecBytes data

/-- WF(c, D): the command frame, then one block per chip from physical position N-1 down to 0
(41_frame_builder R163). -/
def writeFrame (cfg : Cfg) (c : CmdCode) (data : Nat → List Byte) : List Byte :=
  commandFrame c ++ (List.range cfg.n).flatMap fun j => writeBlock (data (chipAt cfg (cfg.n - 1 - j)))

/-- A chip's 8 received bytes: 6 data bytes and the received PEC (41_frame_builder R166). -/
structure Group where
  data : Vector Byte 6
  h : Byte
  l : Byte
  deriving DecidableEq, Repr

/-- The group of logical chip `i` in a response: received block j belongs to `chip_at(j)`, so chip i's is block pos(i)
(41_frame_builder R166, R160; log 14). -/
def groupAt (cfg : Cfg) (response : List Byte) (i : Nat) : Group where
  data := Vector.ofFn fun m => response[8 * pos cfg i + m.val]?.getD 0
  h := response[8 * pos cfg i + 6]?.getD 0
  l := response[8 * pos cfg i + 7]?.getD 0

/-- ok[i] of 41_frame_builder R166. -/
def groupOk (g : Group) : Bool :=
  pecOk g.data.toList g.h g.l

/-- The 8 bytes stored in a received copy: D ++ [h, l] (41_frame_builder R170, 10_state R48). -/
def groupBytes (g : Group) : Vector Byte 8 :=
  #v[g.data[0], g.data[1], g.data[2], g.data[3], g.data[4], g.data[5], g.h, g.l]

end Sys2Proof.Machine
end

