-- ==== Sys2Proof/Machine/State.lean ====
section
/-! DEFINITION. The state of the block as plain data: the per-chip register model, the ghost link, the sequencer
phase, the observation, the configuration and the environment's inputs; the reasons a step can stop; and reset. -/

namespace Sys2Proof.Machine

/-- One configuration register of one chip (10_state R33, R34, R35). -/
structure CfgGroup where
  /-- The 6 bytes the next WRITE_CFG transmits (R33). -/
  tx : Vector Byte 6
  /-- The 8 bytes last received: 6 data, then the received PEC, high byte at 6 (R34, R48). -/
  rx : Vector Byte 8
  /-- The last-receive PEC mismatch flag (R35). -/
  pecErr : Bool
  deriving DecidableEq, Repr

/-- The register model of one logical chip (10_state R32 to R45). -/
structure Chip where
  /-- Configuration register A. -/
  cfgA : CfgGroup
  /-- Configuration register B. -/
  cfgB : CfgGroup
  /-- Cell codes; slot 3k+m is code m of cell sub-register k (R36). -/
  cellCodes : Vector U16 18
  /-- PEC-mismatch flag of each cell sub-register (R37). -/
  cellPec : Vector Bool 6
  /-- Auxiliary codes; slot 3k+m is code m of auxiliary sub-register k (R38). -/
  auxCodes : Vector U16 12
  /-- PEC-mismatch flag of each auxiliary sub-register (R39). -/
  auxPec : Vector Bool 4
  /-- Status codes: 0..2 from status A, 3 from status B (R40). -/
  statCodes : Vector U16 4
  /-- The three raw flag bytes of status B (R41). -/
  statFlags : Vector Byte 3
  /-- The mux-self-test flag (R42). -/
  statMuxFail : Bool
  /-- The thermal-shutdown flag (R42). -/
  statThsd : Bool
  /-- PEC-mismatch flag of each status sub-register (R43). -/
  statPec : Vector Bool 2
  /-- The communication register's transmit bytes (R44). -/
  commTx : Vector Byte 6
  /-- The communication register's received bytes, PEC at 6 and 7 (R44). -/
  commRx : Vector Byte 8
  /-- The error counters, by counter id; each below 2^CNT_W (R45; log 12). -/
  cnt : Vector Nat 14
  deriving DecidableEq, Repr

/-- A measurement kind (44_measurement_parser R261). -/
inductive Kind where
  | cell
  | aux
  | stat
  deriving DecidableEq, Repr

/-- The power state of the isoSPI link, a ghost the block never reads (10_state R50, 42_link_sequencer R200). -/
inductive Link where
  | active
  | idle
  | sleep
  deriving DecidableEq, Repr

/-- The phases of the sequencer inside a wake request (42_link_sequencer R205). -/
inductive SeqPhase where
  | ready
  | idleFill (c : Nat)
  | sleepBurst (c : Nat)
  | sleepPause (c : Nat)
  deriving DecidableEq, Repr

/-- The reliability mark of a bus event (42_link_sequencer R203). -/
inductive Rel where
  | reliable
  | unreliable
  deriving DecidableEq, Repr

/-- A bus event of the trace (00_scope R12). -/
inductive Event where
  /-- TX(L, rel). -/
  | tx (bytes : List Byte) (rel : Rel)
  /-- TXRX(L, n, R, rel). -/
  | txrx (bytes : List Byte) (n : Nat) (response : List Byte) (rel : Rel)
  /-- FILL(n, R, rel). -/
  | fill (n : Nat) (response : List Byte) (rel : Rel)
  /-- DELAY(us). -/
  | delay (us : Nat)
  deriving DecidableEq, Repr

/-- The result statuses (60_exceptions R341). -/
inductive Status where
  | ok
  | pecMismatch
  | convDone
  | convTimeout
  | invalidParam
  | shapeError
  | illegalRequest
  deriving DecidableEq, Repr

/-- A result record (00_scope R13). `val` is an unsigned number (log 11); `mism` lists (chip, register id) pairs. -/
structure Result where
  st : Status
  val : Nat
  mism : List (Nat × Nat)
  deriving DecidableEq, Repr

/-- A request as the host presents it: a word and a payload (30_encoding R100). -/
structure Request where
  word : RequestWord
  payload : List Byte
  deriving DecidableEq, Repr

/-- Why a step can fault: never. No status is fatal, there is no trap, and after any result the block accepts the
next request (60_exceptions R349, R352). Safe: no behaviour is cut off (log 24). -/
inductive Fault where
  deriving DecidableEq, Repr

/-- Why a step can be refused. -/
inductive Refusal where
  /-- Raised by `exec` for an instruction without a meaning. Safe: the model stops where the hardware goes on. No arm
  raises it. -/
  | notModelled (mnemonic : String)
  /-- Raised by `step` when the configuration is ill-formed: such a configuration "is refused before reset, and no
  request is run on it" (00_scope R9, 93 I17). Safe: a chain the spec cannot express has no model (log 15). -/
  | illFormedConfig
  deriving DecidableEq, Repr

/-- The whole machine. -/
structure State where
  /-- The configuration, constant (00_scope R8; log 1). -/
  cfg : Cfg
  /-- The register model of every logical chip, by logical index (10_state R30, R54). -/
  chips : List Chip
  /-- The ghost link state (10_state R50). -/
  link : Link
  /-- The sequencer phase, ready at every request boundary (42_link_sequencer R205; log 18). -/
  seq : SeqPhase
  /-- The bus events so far, oldest first (00_scope R12). -/
  trace : List Event
  /-- The results so far, oldest first (00_scope R12, R13). -/
  results : List Result
  /-- MODEL: the payload presented with the current request (30_encoding R100; log 7). -/
  payload : List Byte
  /-- MODEL: the requests the host has still to present, next first (60_exceptions R350; log 5). -/
  requests : List Request
  /-- MODEL: the bus adapter's next answers, next first (20_memory R86; log 8). -/
  answers : List (List Byte)
  /-- MODEL: the number of receives so far, the argument of the free oracle (log 8). -/
  draws : Nat
  /-- MODEL: the environment's next link decays, next first (42_link_sequencer R201; log 9). -/
  gaps : List Nat
  /-- MODEL: the number of gaps so far, the argument of the free decay (log 9). -/
  gapDraws : Nat
  deriving DecidableEq, Repr

/-- A configuration register right after reset (10_state R55). -/
def CfgGroup.zero : CfgGroup where
  tx := Vector.replicate 6 0
  rx := Vector.replicate 8 0
  pecErr := false

/-- A chip right after reset: value-initialised to all-zero state (10_state R55). -/
def Chip.zero : Chip where
  cfgA := CfgGroup.zero
  cfgB := CfgGroup.zero
  cellCodes := Vector.replicate 18 0
  cellPec := Vector.replicate 6 false
  auxCodes := Vector.replicate 12 0
  auxPec := Vector.replicate 4 false
  statCodes := Vector.replicate 4 0
  statFlags := Vector.replicate 3 0
  statMuxFail := false
  statThsd := false
  statPec := Vector.replicate 2 false
  commTx := Vector.replicate 6 0
  commRx := Vector.replicate 8 0
  cnt := Vector.replicate 14 0

/-- Reset with a given configuration (70_reset_and_hazards R370, 10_state R55): every chip zero, the link asleep, the
observation empty; nothing presented, scripted or drawn yet. -/
def State.resetWith (c : Cfg) : State where
  cfg := c
  chips := List.replicate c.n Chip.zero
  link := .sleep
  seq := .ready
  trace := []
  results := []
  payload := []
  requests := []
  answers := []
  draws := 0
  gaps := []
  gapDraws := 0

/-- The machine right after reset, with the default configuration (log 2). -/
def State.reset : State :=
  State.resetWith defaultCfg

end Sys2Proof.Machine
end

