-- ==== Sys2Proof/Machine/Operands.lean ====
section
/-! DEFINITION. Operands: register ids, sub-register read codes, bit-field packing, threshold codes, the fields a
getter decodes, and the reasons an operand is rejected for. -/

namespace Sys2Proof.Machine

/-! ### Rejection reasons and status numbers -/

/-- The reason codes of INVALID_PARAM (60_exceptions R343). -/
inductive Reason where
  | reservedBits
  | chipRange
  | fieldRange
  | payload
  deriving DecidableEq, Repr

/-- The number a reason puts in `val` (60_exceptions R343). -/
def reasonCode : Reason → Nat
  | .reservedBits => 1
  | .chipRange => 2
  | .fieldRange => 3
  | .payload => 4

/-- The number of a status (60_exceptions R341). -/
def statusCode : Status → Nat
  | .ok => 0
  | .pecMismatch => 1
  | .convDone => 2
  | .convTimeout => 3
  | .invalidParam => 4
  | .shapeError => 5
  | .illegalRequest => 6

/-! ### Registers of a chip -/

/-- `cfg[r]` of a chip. -/
def cfgGroup (r : CfgReg) (c : Chip) : CfgGroup :=
  match r with
  | .a => c.cfgA
  | .b => c.cfgB

/-- Writing `cfg[r]` of a chip. -/
def setCfgGroup (r : CfgReg) (g : CfgGroup) (c : Chip) : Chip :=
  match r with
  | .a => { c with cfgA := g }
  | .b => { c with cfgB := g }

/-- Byte k of `cfg[r].tx`. -/
def cfgTx (r : CfgReg) (k : Nat) (c : Chip) : Byte :=
  (cfgGroup r c).tx[k]?.getD 0

/-- Writing byte k of `cfg[r].tx` (43_register_codec R220). -/
def setCfgTx (r : CfgReg) (k : Nat) (b : Byte) (c : Chip) : Chip :=
  setCfgGroup r { cfgGroup r c with tx := (cfgGroup r c).tx.setIfInBounds k b } c

/-- The register id of a configuration register (30_encoding R106). -/
def cfgRegId : CfgReg → Nat
  | .a => 0
  | .b => 1

/-- The register id of sub-register k of a kind (30_encoding R106, 44_measurement_parser R261). -/
def regId (kind : Kind) (k : Nat) : Nat :=
  match kind with
  | .cell => 2 + k
  | .aux => 8 + k
  | .stat => 12 + k

/-- The register id of COMM (30_encoding R106). -/
def commRegId : Nat := 14

/-- cid(id), the counter of a register id (44_measurement_parser R267). -/
def counterId (id : Nat) : Nat :=
  if id ≤ 1 then 1 else id

/-- How many sub-registers of a kind the chain's shape has (00_scope R8). -/
def subregs (c : Cfg) : Kind → Nat
  | .cell => c.cellSubregs
  | .aux => c.auxSubregs
  | .stat => c.statSubregs

/-- The name of RDCODE(kind, k) (44_measurement_parser section 3, 30_encoding R106, R112). A k past the kind's last
sub-register does not reach it. -/
def readName (kind : Kind) (k : Nat) : CmdName :=
  match kind with
  | .cell => [CmdName.rdcva, .rdcvb, .rdcvc, .rdcvd, .rdcve, .rdcvf][k]?.getD .rdcva
  | .aux => [CmdName.rdauxa, .rdauxb, .rdauxc, .rdauxd][k]?.getD .rdauxa
  | .stat => [CmdName.rdstata, .rdstatb][k]?.getD .rdstata

/-- The code of WRITE_CFG's command (41_frame_builder R168). -/
def writeCfgName : CfgReg → CmdName
  | .a => .wrcfga
  | .b => .wrcfgb

/-- The code of READ_CFG's command (41_frame_builder R170). -/
def readCfgName : CfgReg → CmdName
  | .a => .rdcfga
  | .b => .rdcfgb

/-! ### Bit fields -/

/-- le16(lo, hi) (00_scope R10, 20_memory R81). -/
def le16 (lo hi : Byte) : U16 :=
  lo.setWidth 16 ||| (hi.setWidth 16 <<< 8)

/-- A bit as a byte. -/
def bitByte (v : Bool) : Byte :=
  if v then 1 else 0

/-- A bit as a number. -/
def bitNat (v : Bool) : Nat :=
  if v then 1 else 0

/-- The read-modify-write of one field: (b & ~M) | ((v << s) & M) (43_register_codec R221). -/
def packField (b mask v : Byte) (s : Nat) : Byte :=
  (b &&& ~~~mask) ||| ((v <<< s) &&& mask)

/-- The mask of one bit of a byte. -/
def bitMask (s : Nat) : Byte :=
  1#8 <<< s

/-- Read-modify-write of the field of mask `m` and shift `s` in byte `k` of `cfg[r].tx` (43_register_codec R221). -/
def packTx (r : CfgReg) (k : Nat) (m v : Byte) (s : Nat) (c : Chip) : Chip :=
  setCfgTx r k (packField (cfgTx r k c) m v s) c

/-- The under-voltage code of a threshold: T // 16 - 1 (43_register_codec R225). -/
def uvRaw (t : U16) : BitVec 12 :=
  BitVec.ofNat 12 (t.toNat / 16 - 1)

/-- The over-voltage code of a threshold: T // 16 (43_register_codec R226). -/
def ovRaw (t : U16) : BitVec 12 :=
  BitVec.ofNat 12 (t.toNat / 16)

/-- Storing an under-voltage code: byte 1 and the low nibble of byte 2 (43_register_codec R225, 10_state R47). -/
def storeUv (r : CfgReg) (raw : BitVec 12) (c : Chip) : Chip :=
  packTx r 2 0x0F ((raw.extractLsb' 8 4).setWidth 8) 0 (packTx r 1 0xFF (raw.extractLsb' 0 8) 0 c)

/-- Storing an over-voltage code: the high nibble of byte 2 and byte 3 (43_register_codec R226, 10_state R47). -/
def storeOv (r : CfgReg) (raw : BitVec 12) (c : Chip) : Chip :=
  packTx r 3 0xFF (raw.extractLsb' 4 8) 0 (packTx r 2 0xF0 ((raw.extractLsb' 0 4).setWidth 8) 4 c)

/-- The byte that holds DCC[c] and its bit (43_register_codec R227). -/
def dccPlace (c : Nat) : Nat × Nat :=
  if c ≤ 7 then (4, c) else (5, c - 8)

/-! ### The configuration getter -/

/-- The bytes GET_CFG decodes (43_register_codec R229). -/
def cfgCopy (r : CfgReg) (src : Copy) (c : Chip) : List Byte :=
  match src with
  | .tx => (cfgGroup r c).tx.toList
  | .rx => (cfgGroup r c).rx.toList

/-- xmax of 43_register_codec R229. -/
def cfgFieldMaxIndex (f : Nat) (src : Copy) : Nat :=
  if f = 2 then 4
  else if f = 7 then 11
  else if f = 9 then (match src with | .tx => 5 | .rx => 7)
  else 0

/-- The under-voltage code in configuration bytes (43_register_codec R229). -/
def uvOf (bytes : List Byte) : BitVec 12 :=
  let b1 : Byte := bytes[1]?.getD 0
  let b2 : Byte := bytes[2]?.getD 0
  b1.setWidth 12 ||| ((b2 &&& 0x0F#8).setWidth 12 <<< 8)

/-- The over-voltage code in configuration bytes (43_register_codec R229). -/
def ovOf (bytes : List Byte) : BitVec 12 :=
  let b2 : Byte := bytes[2]?.getD 0
  let b3 : Byte := bytes[3]?.getD 0
  (b2 >>> 4).setWidth 12 ||| (b3.setWidth 12 <<< 4)

/-- The value of field F at index x in configuration bytes (43_register_codec R229, 30_encoding R107). -/
def cfgFieldValue (bytes : List Byte) (f x : Nat) : Nat :=
  match f with
  | 0 => bitNat ((bytes[0]?.getD 0).getLsbD 0)
  | 1 => bitNat ((bytes[0]?.getD 0).getLsbD 2)
  | 2 => bitNat ((bytes[0]?.getD 0).getLsbD (3 + x))
  | 3 => (uvOf bytes).toNat
  | 4 => (ovOf bytes).toNat
  | 5 => ((uvOf bytes).toNat + 1) * 16
  | 6 => (ovOf bytes).toNat * 16
  | 7 => if x ≤ 7 then bitNat ((bytes[4]?.getD 0).getLsbD x) else bitNat ((bytes[5]?.getD 0).getLsbD (x - 8))
  | 8 => ((bytes[5]?.getD 0).extractLsb' 4 4).toNat
  | _ => (bytes[x]?.getD 0).toNat

/-- The value of status field f (30_encoding R120, 44_measurement_parser R281). -/
def statFieldValue (c : Chip) (f : Nat) : Nat :=
  if f ≤ 3 then (c.statCodes[f]?.getD 0).toNat
  else if f ≤ 6 then (c.statFlags[f - 4]?.getD 0).toNat
  else if f = 7 then bitNat c.statMuxFail
  else bitNat c.statThsd

/-- Byte x of a copy of the communication register (43_register_codec R234). -/
def commByte (c : Chip) (src : Copy) (x : Nat) : Byte :=
  match src with
  | .tx => c.commTx[x]?.getD 0
  | .rx => c.commRx[x]?.getD 0

end Sys2Proof.Machine
end

