-- ==== Sys2Proof/Machine/Flags.lean ====
section
/-! DEFINITION. The status bits of the register model and what a completed read writes into one chip: the decoded
codes (44_measurement_parser R263, R266), the PEC-mismatch flag (R264) and the error counters (R268, R270). -/

namespace Sys2Proof.Machine

/-- The PEC-mismatch flag of a register id 0..13 (44_measurement_parser R280, 30_encoding R106). -/
def pecFlag (c : Chip) (id : Nat) : Bool :=
  if id = 0 then c.cfgA.pecErr
  else if id = 1 then c.cfgB.pecErr
  else if id ≤ 7 then c.cellPec[id - 2]?.getD false
  else if id ≤ 11 then c.auxPec[id - 8]?.getD false
  else c.statPec[id - 12]?.getD false

/-- Writing flag(kind, i, k) (44_measurement_parser R261, R264). -/
def setKindFlag (kind : Kind) (k : Nat) (mismatch : Bool) (c : Chip) : Chip :=
  match kind with
  | .cell => { c with cellPec := c.cellPec.setIfInBounds k mismatch }
  | .aux => { c with auxPec := c.auxPec.setIfInBounds k mismatch }
  | .stat => { c with statPec := c.statPec.setIfInBounds k mismatch }

/-- sat_inc(x) with counters of `w` bits (44_measurement_parser R268). -/
def satInc (w x : Nat) : Nat :=
  if x = 2 ^ w - 1 then x else x + 1

/-- Incrementing one counter of a chip. -/
def bumpCounter (w c : Nat) (chip : Chip) : Chip :=
  { chip with cnt := chip.cnt.setIfInBounds c (satInc w (chip.cnt[c]?.getD 0)) }

/-- Account(i, id) on chip i: the global counter, then the register type's (44_measurement_parser R270). -/
def account (w id : Nat) (chip : Chip) : Chip :=
  bumpCounter w (counterId id) (bumpCounter w 0 chip)

/-- Zeroing every counter of a chip (44_measurement_parser R284). -/
def zeroCounters (chip : Chip) : Chip :=
  { chip with cnt := Vector.replicate 14 0 }

/-- Code m of a group: le16(D[2m], D[2m+1]) (20_memory R81). -/
def groupCode (g : Group) (m : Nat) : U16 :=
  le16 (g.data[2 * m]?.getD 0) (g.data[2 * m + 1]?.getD 0)

/-- Decode(kind, k, i, D) on chip i (44_measurement_parser R263, R266). -/
def decodeGroup (kind : Kind) (k : Nat) (g : Group) (c : Chip) : Chip :=
  match kind with
  | .cell =>
    { c with cellCodes := ((c.cellCodes.setIfInBounds (3 * k) (groupCode g 0)).setIfInBounds (3 * k + 1)
        (groupCode g 1)).setIfInBounds (3 * k + 2) (groupCode g 2) }
  | .aux =>
    { c with auxCodes := ((c.auxCodes.setIfInBounds (3 * k) (groupCode g 0)).setIfInBounds (3 * k + 1)
        (groupCode g 1)).setIfInBounds (3 * k + 2) (groupCode g 2) }
  | .stat =>
    if k = 0 then
      { c with statCodes := ((c.statCodes.setIfInBounds 0 (groupCode g 0)).setIfInBounds 1
          (groupCode g 1)).setIfInBounds 2 (groupCode g 2) }
    else
      { c with
        statCodes := c.statCodes.setIfInBounds 3 (groupCode g 0)
        statFlags := #v[g.data[2], g.data[3], g.data[4]]
        statThsd := g.data[5].getLsbD 0
        statMuxFail := g.data[5].getLsbD 1 }

/-- What a completed read of sub-register k stores in one chip: the codes, match or not (44_measurement_parser R262),
the flag (R264), and on a mismatch the accounting (R261). -/
def storeMeasurement (w : Nat) (kind : Kind) (k : Nat) (g : Group) (c : Chip) : Chip :=
  let stored := setKindFlag kind k (!groupOk g) (decodeGroup kind k g c)
  if groupOk g then stored else account w (regId kind k) stored

/-- What a completed READ_CFG stores in one chip (41_frame_builder R170). -/
def storeCfgGroup (w : Nat) (r : CfgReg) (g : Group) (c : Chip) : Chip :=
  let stored := setCfgGroup r { cfgGroup r c with rx := groupBytes g, pecErr := !groupOk g } c
  if groupOk g then stored else account w (cfgRegId r) stored

/-- What a completed READ_COMM stores in one chip: no flag, no counter (41_frame_builder R171). -/
def storeCommGroup (g : Group) (c : Chip) : Chip :=
  { c with commRx := groupBytes g }

end Sys2Proof.Machine
end

