-- ==== Sys2Proof/Machine/Ops.lean ====
section
/-! DEFINITION. The operations every request is made of: ending a request (60_exceptions R340), the checks before it
(30_encoding R103), the register model of one chip, the bus primitives (20_memory R84 to R88), the read exchange
(41_frame_builder R166), the store step (44_measurement_parser R261), and how a request is presented to the block
(60_exceptions R350, 42_link_sequencer R201). -/

namespace Sys2Proof.Machine

/-! ### How a request ends -/

/-- finish: the request appends its one result (00_scope R11, R13; 10_state R31). -/
def finish (r : Result) (s : State) : State :=
  { s with results := s.results ++ [r] }

/-- `finish(OK, val, [])`. -/
def finishOk (val : Nat) (s : State) : State :=
  finish ⟨.ok, val, []⟩ s

/-- `raise E(v)`: TAKING AN EXCEPTION, the one shared operation. It ends the request with the result `E, v, []`; nothing
is saved, no mode changes and control does not transfer, and there is no return from it (60_exceptions R340, R352). -/
def raiseStatus (st : Status) (v : Nat) (s : State) : State :=
  finish ⟨st, v, []⟩ s

/-- The reason of the first check that fails (30_encoding R103, 60_exceptions R343). -/
def firstFailing : List (Bool × Reason) → Option Reason
  | [] => none
  | (fails, reason) :: rest => if fails then some reason else firstFailing rest

/-- A request behind its checks: the first failing one ends it with INVALID_PARAM before any bus event or state change
(30_encoding R103, 60_exceptions R343). -/
def guarded (checks : List (Bool × Reason)) (body : State → State) (s : State) : State :=
  match firstFailing checks with
  | some reason => raiseStatus .invalidParam (reasonCode reason) s
  | none => body s

/-- Check (b): the CHIP of a per-chip request is N or more (30_encoding R103, R104). -/
def chipCheck (s : State) (chip : ChipField) : Bool × Reason :=
  (decide (s.cfg.n ≤ chip.toNat), .chipRange)

/-- Check (c): an ARG sub-field is out of its range (30_encoding R103). -/
def fieldCheck (outOfRange : Bool) : Bool × Reason :=
  (outOfRange, .fieldRange)

/-- Check (d) of every request but PEC_CALC: a payload is present (30_encoding R103). -/
def payloadCheck (s : State) : Bool × Reason :=
  (!s.payload.isEmpty, .payload)

/-- A result record of a read that completed: OK, or PEC_MISMATCH with the number of mismatches (60_exceptions R344). -/
def readResult (mism : List (Nat × Nat)) : Result :=
  ⟨if mism.isEmpty then .ok else .pecMismatch, mism.length, mism⟩

/-! ### The register model -/

/-- The register model of logical chip i; every request that reads it has checked i below N. -/
def chipOf (s : State) (i : Nat) : Chip :=
  s.chips[i]?.getD Chip.zero

/-- Changing the register model of logical chip i, and of no other. -/
def updChip (i : Nat) (f : Chip → Chip) (s : State) : State :=
  { s with chips := s.chips.modify i f }

/-- Changing every chip by what a response holds for it, in ascending logical order (44_measurement_parser R261,
R265; log 13). -/
def storeAll (store : Group → Chip → Chip) (response : List Byte) (s : State) : State :=
  { s with chips := s.chips.mapIdx fun i c => store (groupAt s.cfg response i) c }

/-- The mismatches of one exchange, by ascending logical chip (44_measurement_parser R261). -/
def mismatches (cfg : Cfg) (response : List Byte) (id : Nat) : List (Nat × Nat) :=
  ((List.range cfg.n).filter fun i => !groupOk (groupAt cfg response i)).map fun i => (i, id)

/-- The bus code of a command name (30_encoding R112). -/
def code (s : State) (name : CmdName) : CmdCode :=
  cmdCodeOf s.cfg.cmdCode name

/-! ### The bus -/

/-- The reliability mark of an event that starts on a link state (42_link_sequencer R203). -/
def relOf : Link → Rel
  | .active => .reliable
  | .idle => .unreliable
  | .sleep => .unreliable

/-- The link after ordinary bus activity: unchanged (42_link_sequencer R202). -/
def linkAfterBus (l : Link) : Link :=
  l

/-- BusTx(L) (20_memory R84). -/
def busTx (bytes : List Byte) (s : State) : State :=
  { s with trace := s.trace ++ [.tx bytes (relOf s.link)], link := linkAfterBus s.link }

/-- What the bus adapter answers to the next transmit-and-receive: the next scripted answer, whatever its length, else
a free list of free bytes (20_memory R85, R86; log 8). -/
def responseOf (s : State) : List Byte :=
  match s.answers with
  | answer :: _ => answer
  | [] => (List.range (Config.oracleLength s.draws)).map (Config.oracleByte s.draws)

/-- What comes back on the next fill of n bytes: exactly n bytes, from the next scripted answer as far as it goes, else
free (20_memory R86, R87; log 8). -/
def fillOf (n : Nat) (s : State) : List Byte :=
  (List.range n).map fun j => ((s.answers.headD [])[j]?).getD (Config.oracleByte s.draws j)

/-- BusTxRx(L, n) (20_memory R85); what it returns is `responseOf` of the state before. -/
def busTxRx (bytes : List Byte) (n : Nat) (s : State) : State :=
  { s with
    trace := s.trace ++ [.txrx bytes n (responseOf s) (relOf s.link)]
    link := linkAfterBus s.link
    answers := s.answers.tail
    draws := s.draws + 1 }

/-- BusFill(n) (20_memory R87); what it returns is `fillOf n` of the state before. -/
def busFill (n : Nat) (s : State) : State :=
  { s with
    trace := s.trace ++ [.fill n (fillOf n s) (relOf s.link)]
    link := linkAfterBus s.link
    answers := s.answers.tail
    draws := s.draws + 1 }

/-- BusDelay(us): no byte, no change of the link (20_memory R88). -/
def busDelay (us : Nat) (s : State) : State :=
  { s with trace := s.trace ++ [.delay us] }

/-- The bytes an event clocks out: n bytes of FILLER for a fill (20_memory R84 to R88, 30_encoding R111). -/
def bytesOut (c : Cfg) : Event → List Byte
  | .tx bytes _ => bytes
  | .txrx bytes _ _ _ => bytes
  | .fill n _ _ => List.replicate n c.filler
  | .delay _ => []

/-- The bus event of ReadGroup(c) (41_frame_builder R166). -/
def exchange (c : CmdCode) (s : State) : State :=
  busTxRx (commandFrame c) (8 * s.cfg.n) s

/-- ReadGroup's length test: not SHAPE (41_frame_builder R166, 60_exceptions R345). -/
def shapeOk (s : State) : Bool :=
  (responseOf s).length == 8 * s.cfg.n

/-- A read of one register group: the exchange, SHAPE_ERROR(k) for a response of the wrong length, else the store step
of every chip and the result (41_frame_builder R170, R171, 44_measurement_parser R273). -/
def readOne (c : CmdCode) (k id : Nat) (store : Group → Chip → Chip) (s : State) : State :=
  if shapeOk s then
    finish (readResult (mismatches s.cfg (responseOf s) id)) (storeAll store (responseOf s) (exchange c s))
  else raiseStatus .shapeError k (exchange c s)

/-- The read-all loop over the sub-registers still to read, with the mismatches found so far: each group is stored
before the next exchange, and a SHAPE stops it (44_measurement_parser R271, R272). -/
def readAllFrom (kind : Kind) : List Nat → List (Nat × Nat) → State → State
  | [], mism, s => finish (readResult mism) s
  | k :: ks, mism, s =>
    if shapeOk s then
      readAllFrom kind ks (mism ++ mismatches s.cfg (responseOf s) (regId kind k))
        (storeAll (storeMeasurement s.cfg.cntW kind k) (responseOf s) (exchange (code s (readName kind k)) s))
    else finish ⟨.shapeError, k, mism⟩ (exchange (code s (readName kind k)) s)

/-! ### Presenting a request -/

/-- The link after the environment lowered it by a number of steps (42_link_sequencer R201). -/
def lowerLink (l : Link) (steps : Nat) : Link :=
  match l with
  | .sleep => .sleep
  | .idle => if steps = 0 then .idle else .sleep
  | .active => if steps = 0 then .active else if steps = 1 then .idle else .sleep

/-- How many steps the environment lowers the link before the next request: the next scripted decay, else free
(42_link_sequencer R201; log 9). -/
def gapChoice (s : State) : Nat :=
  match s.gaps with
  | g :: _ => g
  | [] => Config.freeDecay s.gapDraws

/-- The environment's step between two requests (42_link_sequencer R201). -/
def afterGap (s : State) : State :=
  { s with link := lowerLink s.link (gapChoice s), gaps := s.gaps.tail, gapDraws := s.gapDraws + 1 }

/-- The host presents a request: time has passed, the payload stands at the block, and the request is issued
(60_exceptions R350, 30_encoding R100). -/
def present (rq : Request) (s : State) : State :=
  { afterGap s with payload := rq.payload, requests := s.requests.tail }

/-- A word that is no request: ILLEGAL_REQUEST with val = OP for an unassigned OP (60_exceptions R342), INVALID_PARAM(1)
for reserved bits (30_encoding R103 (a), R114). Neither has any other effect. -/
def rejectWord (e : DecodeError) (s : State) : State :=
  match e with
  | .illegalOp op => raiseStatus .illegalRequest op.toNat s
  | .reservedBits => raiseStatus .invalidParam (reasonCode .reservedBits) s

end Sys2Proof.Machine
end

