-- ==== Sys2Proof/Machine/Codec.lean ====
section
/-! DEFINITION. The bit-packed register codec's requests (43_register_codec R222 to R234). None makes a bus event or
changes the link. Each shared operation takes the configuration register its two requests name (30_encoding R105). -/

namespace Sys2Proof.Machine

/-- A codec setter: the checks of a per-chip request, then one change of that chip's transmit bytes
(43_register_codec R220, R221), and OK with a value. -/
def setterOf (chip : ChipField) (outOfRange : Bool) (change : Chip → Chip) (val : Nat) (s : State) : State :=
  guarded [chipCheck s chip, fieldCheck outOfRange, payloadCheck s]
    (fun s => finishOk val (updChip chip.toNat change s)) s

/-- SET_REFON.R (43_register_codec R222). -/
def setRefon (r : CfgReg) (chip : ChipField) (v : Bool) (s : State) : State :=
  setterOf chip false (packTx r 0 0x04 (bitByte v) 2) 0 s

/-- SET_ADCOPT.R (43_register_codec R223). -/
def setAdcopt (r : CfgReg) (chip : ChipField) (v : Bool) (s : State) : State :=
  setterOf chip false (packTx r 0 0x01 (bitByte v) 0) 0 s

/-- SET_GPIO.R (43_register_codec R224). -/
def setGpio (r : CfgReg) (chip : ChipField) (g : BitVec 3) (v : Bool) (s : State) : State :=
  setterOf chip (decide (4 < g.toNat)) (packTx r 0 (bitMask (3 + g.toNat)) (bitByte v) (3 + g.toNat)) 0 s

/-- SET_UV.R (43_register_codec R225): `val` is the raw code written. -/
def setUv (r : CfgReg) (chip : ChipField) (t : U16) (s : State) : State :=
  setterOf chip (decide (t.toNat < 16)) (storeUv r (uvRaw t)) (uvRaw t).toNat s

/-- SET_OV.R (43_register_codec R226): `val` is the raw code written. -/
def setOv (r : CfgReg) (chip : ChipField) (t : U16) (s : State) : State :=
  setterOf chip false (storeOv r (ovRaw t)) (ovRaw t).toNat s

/-- SET_DCC.R (43_register_codec R227). -/
def setDcc (r : CfgReg) (chip : ChipField) (c : BitVec 4) (v : Bool) (s : State) : State :=
  setterOf chip (decide (11 < c.toNat))
    (packTx r (dccPlace c.toNat).1 (bitMask (dccPlace c.toNat).2) (bitByte v) (dccPlace c.toNat).2) 0 s

/-- SET_DCTO.R (43_register_codec R228). -/
def setDcto (r : CfgReg) (chip : ChipField) (t : BitVec 4) (s : State) : State :=
  setterOf chip false (packTx r 5 0xF0 (t.setWidth 8) 4) 0 s

/-- GET_CFG.R (43_register_codec R229). -/
def getCfg (r : CfgReg) (chip : ChipField) (f : BitVec 4) (src : Copy) (x : BitVec 4) (s : State) : State :=
  guarded [chipCheck s chip, fieldCheck (decide (9 < f.toNat)),
      fieldCheck (decide (cfgFieldMaxIndex f.toNat src < x.toNat)), payloadCheck s]
    (fun s => finishOk (cfgFieldValue (cfgCopy r src (chipOf s chip.toNat)) f.toNat x.toNat) s) s

/-- SET_REFON.A (43_register_codec R222). -/
def execSetRefonA (chip : ChipField) (v : Bool) (s : State) : Host.Outcome State Fault Refusal :=
  .next (setRefon .a chip v s)

/-- SET_ADCOPT.A (43_register_codec R223). -/
def execSetAdcoptA (chip : ChipField) (v : Bool) (s : State) : Host.Outcome State Fault Refusal :=
  .next (setAdcopt .a chip v s)

/-- SET_GPIO.A (43_register_codec R224). -/
def execSetGpioA (chip : ChipField) (g : BitVec 3) (v : Bool) (s : State) : Host.Outcome State Fault Refusal :=
  .next (setGpio .a chip g v s)

/-- SET_UV.A (43_register_codec R225). -/
def execSetUvA (chip : ChipField) (t : U16) (s : State) : Host.Outcome State Fault Refusal :=
  .next (setUv .a chip t s)

/-- SET_OV.A (43_register_codec R226). -/
def execSetOvA (chip : ChipField) (t : U16) (s : State) : Host.Outcome State Fault Refusal :=
  .next (setOv .a chip t s)

/-- SET_DCC.A (43_register_codec R227). -/
def execSetDccA (chip : ChipField) (c : BitVec 4) (v : Bool) (s : State) : Host.Outcome State Fault Refusal :=
  .next (setDcc .a chip c v s)

/-- SET_DCTO.A (43_register_codec R228). -/
def execSetDctoA (chip : ChipField) (t : BitVec 4) (s : State) : Host.Outcome State Fault Refusal :=
  .next (setDcto .a chip t s)

/-- GET_CFG.A (43_register_codec R229). -/
def execGetCfgA (chip : ChipField) (f : BitVec 4) (src : Copy) (x : BitVec 4) (s : State) :
    Host.Outcome State Fault Refusal :=
  .next (getCfg .a chip f src x s)

/-- SET_REFON.B (43_register_codec R222). -/
def execSetRefonB (chip : ChipField) (v : Bool) (s : State) : Host.Outcome State Fault Refusal :=
  .next (setRefon .b chip v s)

/-- SET_ADCOPT.B (43_register_codec R223). -/
def execSetAdcoptB (chip : ChipField) (v : Bool) (s : State) : Host.Outcome State Fault Refusal :=
  .next (setAdcopt .b chip v s)

/-- SET_GPIO.B (43_register_codec R224). -/
def execSetGpioB (chip : ChipField) (g : BitVec 3) (v : Bool) (s : State) : Host.Outcome State Fault Refusal :=
  .next (setGpio .b chip g v s)

/-- SET_UV.B (43_register_codec R225). -/
def execSetUvB (chip : ChipField) (t : U16) (s : State) : Host.Outcome State Fault Refusal :=
  .next (setUv .b chip t s)

/-- SET_OV.B (43_register_codec R226). -/
def execSetOvB (chip : ChipField) (t : U16) (s : State) : Host.Outcome State Fault Refusal :=
  .next (setOv .b chip t s)

/-- SET_DCC.B (43_register_codec R227). -/
def execSetDccB (chip : ChipField) (c : BitVec 4) (v : Bool) (s : State) : Host.Outcome State Fault Refusal :=
  .next (setDcc .b chip c v s)

/-- SET_DCTO.B (43_register_codec R228). -/
def execSetDctoB (chip : ChipField) (t : BitVec 4) (s : State) : Host.Outcome State Fault Refusal :=
  .next (setDcto .b chip t s)

/-- GET_CFG.B (43_register_codec R229). -/
def execGetCfgB (chip : ChipField) (f : BitVec 4) (src : Copy) (x : BitVec 4) (s : State) :
    Host.Outcome State Fault Refusal :=
  .next (getCfg .b chip f src x s)

/-- SET_COMM (43_register_codec R233). -/
def execSetComm (chip : ChipField) (x : BitVec 3) (b : Byte) (s : State) : Host.Outcome State Fault Refusal :=
  .next (setterOf chip (decide (5 < x.toNat)) (fun c => { c with commTx := c.commTx.setIfInBounds x.toNat b }) 0 s)

/-- GET_COMM (43_register_codec R234). -/
def execGetComm (chip : ChipField) (x : BitVec 3) (src : Copy) (s : State) : Host.Outcome State Fault Refusal :=
  .next (guarded [chipCheck s chip, fieldCheck (decide (src = .tx ∧ 5 < x.toNat)), payloadCheck s]
    (fun s => finishOk (commByte (chipOf s chip.toNat) src x.toNat).toNat s) s)

end Sys2Proof.Machine
end

