-- ==== Sys2Proof/Machine/Conversion.lean ====
section
/-! DEFINITION. The conversion controller: START_ADCV, START_ADAX, START_ADSTAT, POLL (45_conversion R312 to R315). -/

namespace Sys2Proof.Machine

/-- A start: transmit the folded code's frame and answer the code (45_conversion R312). -/
def startConversion (c : CmdCode) (s : State) : State :=
  finishOk c.toNat (busTx (commandFrame c) s)

/-- START_ADCV (45_conversion R312). -/
def execStartAdcv (md : BitVec 2) (dcp : Bool) (ch : BitVec 3) (s : State) : Host.Outcome State Fault Refusal :=
  .next (guarded [fieldCheck (decide (6 < ch.toNat)), payloadCheck s]
    (fun s => startConversion (foldAdcv s.cfg md dcp ch) s) s)

/-- START_ADAX (45_conversion R313). -/
def execStartAdax (md : BitVec 2) (chg : BitVec 3) (s : State) : Host.Outcome State Fault Refusal :=
  .next (guarded [fieldCheck (decide (6 < chg.toNat)), payloadCheck s]
    (fun s => startConversion (foldAdax s.cfg md chg) s) s)

/-- START_ADSTAT (45_conversion R314). -/
def execStartAdstat (md : BitVec 2) (chst : BitVec 3) (s : State) : Host.Outcome State Fault Refusal :=
  .next (guarded [fieldCheck (decide (4 < chst.toNat)), payloadCheck s]
    (fun s => startConversion (foldAdstat s.cfg md chst) s) s)

/-- The poll loop at iteration k with so many fills left: a non-zero byte ends it (45_conversion R315). -/
def pollFrom : Nat → Nat → State → State
  | 0, _, s => finish ⟨.convTimeout, 0, []⟩ s
  | left + 1, k, s =>
    if (fillOf 1 s).headD 0 = 0 then pollFrom left (k + 1) (busFill 1 s)
    else finish ⟨.convDone, k, []⟩ (busFill 1 s)

/-- POLL (45_conversion R315). -/
def execPoll (s : State) : Host.Outcome State Fault Refusal :=
  .next (guarded [payloadCheck s]
    (fun s => pollFrom s.cfg.pollMax 1 (busTx (commandFrame (code s .pladc)) s)) s)

end Sys2Proof.Machine
end

