-- ==== Sys2Proof/Machine/FrameBuilder.lean ====
section
/-! DEFINITION. The frame builder's requests: SEND_CMD, WRITE_CFG, WRITE_COMM, READ_CFG, READ_COMM
(41_frame_builder R167 to R171). -/

namespace Sys2Proof.Machine

/-- SEND_CMD (41_frame_builder R167). -/
def execSendCmd (c : CmdCode) (s : State) : Host.Outcome State Fault Refusal :=
  .next (guarded [payloadCheck s] (fun s => finishOk 0 (busTx (commandFrame c) s)) s)

/-- WRITE_CFG (41_frame_builder R168): the transmit bytes of every chip, unchanged (R165). -/
def execWriteCfg (r : CfgReg) (s : State) : Host.Outcome State Fault Refusal :=
  .next (guarded [payloadCheck s]
    (fun s => finishOk 0 (busTx (writeFrame s.cfg (code s (writeCfgName r)) fun i =>
      (cfgGroup r (chipOf s i)).tx.toList) s)) s)

/-- READ_CFG (41_frame_builder R170). -/
def execReadCfg (r : CfgReg) (s : State) : Host.Outcome State Fault Refusal :=
  .next (guarded [payloadCheck s]
    (fun s => readOne (code s (readCfgName r)) 0 (cfgRegId r) (storeCfgGroup s.cfg.cntW r) s) s)

/-- WRITE_COMM (41_frame_builder R169). -/
def execWriteComm (s : State) : Host.Outcome State Fault Refusal :=
  .next (guarded [payloadCheck s]
    (fun s => finishOk 0 (busTx (writeFrame s.cfg (code s .wrcomm) fun i => (chipOf s i).commTx.toList) s)) s)

/-- READ_COMM (41_frame_builder R171): no flag and no counter. -/
def execReadComm (s : State) : Host.Outcome State Fault Refusal :=
  .next (guarded [payloadCheck s] (fun s => readOne (code s .rdcomm) 0 commRegId storeCommGroup s) s)

end Sys2Proof.Machine
end

