-- ==== Sys2Proof/Machine/LinkSequencer.lean ====
section
/-! DEFINITION. The link sequencer: the link transition of a wake (42_link_sequencer R204), the wake requests (R206,
R207), and the phase machine that emits the same events (R205). -/

namespace Sys2Proof.Machine

/-- The link after WAKE_IDLE (42_link_sequencer R204). -/
def wakeIdleLink : Link → Link
  | .active => .active
  | .idle => .active
  | .sleep => .sleep

/-- The link after WAKE_SLEEP (42_link_sequencer R204). -/
def wakeSleepLink : Link → Link
  | .active => .active
  | .idle => .active
  | .sleep => .active

/-- One pass of WAKE_IDLE's loop: one filler byte, the returned byte ignored (42_link_sequencer R206). -/
def idleFillOnce (s : State) : State :=
  busFill 1 s

/-- One pass of WAKE_SLEEP's loop: a burst, then a pause (42_link_sequencer R207). -/
def sleepBurstOnce (s : State) : State :=
  busDelay s.cfg.tPauseUs (busFill (wakeSleepBytes s.cfg) s)

/-- A step repeated a number of times. -/
def repeatStep (f : State → State) : Nat → State → State
  | 0, s => s
  | n + 1, s => repeatStep f n (f s)

/-- WAKE_IDLE (42_link_sequencer R206): N one-byte fills, then the link transition. -/
def execWakeIdle (s : State) : Host.Outcome State Fault Refusal :=
  .next (guarded [payloadCheck s]
    (fun s =>
      let woken := repeatStep idleFillOnce s.cfg.n s
      finishOk 0 { woken with link := wakeIdleLink woken.link }) s)

/-- WAKE_SLEEP (42_link_sequencer R207): N bursts, each with its pause, then the link transition. -/
def execWakeSleep (s : State) : Host.Outcome State Fault Refusal :=
  .next (guarded [payloadCheck s]
    (fun s =>
      let woken := repeatStep sleepBurstOnce s.cfg.n s
      finishOk 0 { woken with link := wakeSleepLink woken.link }) s)

/-! ### The phase machine (42_link_sequencer R205) -/

/-- From SEQ_READY on WAKE_IDLE. -/
def seqStartIdle (s : State) : State :=
  { s with seq := .idleFill 0 }

/-- From SEQ_READY on WAKE_SLEEP. -/
def seqStartSleep (s : State) : State :=
  { s with seq := .sleepBurst 0 }

/-- One phase: its bus events and the next phase. -/
def seqTick (s : State) : State :=
  match s.seq with
  | .ready => s
  | .idleFill c =>
    let t := busFill 1 s
    if c + 1 < s.cfg.n then { t with seq := .idleFill (c + 1) }
    else { t with seq := .ready, link := wakeIdleLink t.link }
  | .sleepBurst c => { busFill (wakeSleepBytes s.cfg) s with seq := .sleepPause c }
  | .sleepPause c =>
    let t := busDelay s.cfg.tPauseUs s
    if c + 1 < s.cfg.n then { t with seq := .sleepBurst (c + 1) }
    else { t with seq := .ready, link := wakeSleepLink t.link }

end Sys2Proof.Machine
end

