-- ==== Sys2Proof/Machine/Measurement.lean ====
section
/-! DEFINITION. The measurement parser's requests and the error counters' (44_measurement_parser R272 to R284). -/

namespace Sys2Proof.Machine

/-- READ_*_ALL of a kind (44_measurement_parser R271, R272, R274, R276). -/
def readAll (kind : Kind) (s : State) : State :=
  guarded [payloadCheck s] (fun s => readAllFrom kind (List.range (subregs s.cfg kind)) [] s) s

/-- READ_*_ONE of a kind (44_measurement_parser R273, R275, R277). -/
def readSubreg (kind : Kind) (k : Nat) (s : State) : State :=
  guarded [fieldCheck (decide (subregs s.cfg kind ≤ k)), payloadCheck s]
    (fun s => readOne (code s (readName kind k)) k (regId kind k) (storeMeasurement s.cfg.cntW kind k) s) s

/-- A getter: the checks of a per-chip request, then one number of that chip's register model; no bus event and no
change of state (44_measurement_parser section 4). -/
def getterOf (chip : ChipField) (outOfRange : Bool) (value : Chip → Nat) (s : State) : State :=
  guarded [chipCheck s chip, fieldCheck outOfRange, payloadCheck s]
    (fun s => finishOk (value (chipOf s chip.toNat)) s) s

/-- READ_CELL_ALL (44_measurement_parser R272). -/
def execReadCellAll (s : State) : Host.Outcome State Fault Refusal :=
  .next (readAll .cell s)

/-- READ_CELL_ONE (44_measurement_parser R273). -/
def execReadCellOne (k : BitVec 3) (s : State) : Host.Outcome State Fault Refusal :=
  .next (readSubreg .cell k.toNat s)

/-- READ_AUX_ALL (44_measurement_parser R274). -/
def execReadAuxAll (s : State) : Host.Outcome State Fault Refusal :=
  .next (readAll .aux s)

/-- READ_AUX_ONE (44_measurement_parser R275). -/
def execReadAuxOne (k : BitVec 3) (s : State) : Host.Outcome State Fault Refusal :=
  .next (readSubreg .aux k.toNat s)

/-- READ_STAT_ALL (44_measurement_parser R276). -/
def execReadStatAll (s : State) : Host.Outcome State Fault Refusal :=
  .next (readAll .stat s)

/-- READ_STAT_ONE (44_measurement_parser R277). -/
def execReadStatOne (k : BitVec 3) (s : State) : Host.Outcome State Fault Refusal :=
  .next (readSubreg .stat k.toNat s)

/-- GET_CELL (44_measurement_parser R278). -/
def execGetCell (chip : ChipField) (slot : BitVec 5) (s : State) : Host.Outcome State Fault Refusal :=
  .next (getterOf chip (decide (17 < slot.toNat)) (fun c => (c.cellCodes[slot.toNat]?.getD 0).toNat) s)

/-- GET_AUX (44_measurement_parser R279). -/
def execGetAux (chip : ChipField) (slot : BitVec 4) (s : State) : Host.Outcome State Fault Refusal :=
  .next (getterOf chip (decide (11 < slot.toNat)) (fun c => (c.auxCodes[slot.toNat]?.getD 0).toNat) s)

/-- GET_STAT (44_measurement_parser R281). -/
def execGetStat (chip : ChipField) (f : BitVec 4) (s : State) : Host.Outcome State Fault Refusal :=
  .next (getterOf chip (decide (8 < f.toNat)) (fun c => statFieldValue c f.toNat) s)

/-- GET_PEC_FLAG (44_measurement_parser R280). -/
def execGetPecFlag (chip : ChipField) (id : BitVec 4) (s : State) : Host.Outcome State Fault Refusal :=
  .next (getterOf chip (decide (13 < id.toNat)) (fun c => bitNat (pecFlag c id.toNat)) s)

/-- GET_COUNTER (44_measurement_parser R282). -/
def execGetCounter (chip : ChipField) (id : BitVec 4) (s : State) : Host.Outcome State Fault Refusal :=
  .next (getterOf chip (decide (13 < id.toNat)) (fun c => c.cnt[id.toNat]?.getD 0) s)

/-- RESET_COUNTERS (44_measurement_parser R284): every counter of every chip, and nothing else. -/
def execResetCounters (s : State) : Host.Outcome State Fault Refusal :=
  .next (guarded [payloadCheck s] (fun s => finishOk 0 { s with chips := s.chips.map zeroCounters }) s)

end Sys2Proof.Machine
end

