-- ==== Sys2Proof/Machine/PecGenerator.lean ====
section
/-! DEFINITION. The PEC generator's request: PEC_CALC (40_pec15 R145). -/

namespace Sys2Proof.Machine

/-- PEC_CALC (40_pec15 R145): the PEC16 of the payload, which may be PEC_MAX_LEN bytes long. -/
def execPecCalc (s : State) : Host.Outcome State Fault Refusal :=
  .next (guarded [(decide (s.cfg.pecMaxLen < s.payload.length), .payload)]
    (fun s => finishOk (pec16 s.payload).toNat s) s)

end Sys2Proof.Machine
end

