-- ==== Sys2Proof/Machine/Dispatch.lean ====
section
/-! DEFINITION. The meaning of every request, one arm per constructor (30_encoding R114). -/

namespace Sys2Proof.Machine

def exec (i : Instr) (s : State) : Host.Outcome State Fault Refusal :=
  match i with
  | .pecCalc => Sys2Proof.Machine.execPecCalc s
  | .sendCmd c => Sys2Proof.Machine.execSendCmd c s
  | .writeCfg r => Sys2Proof.Machine.execWriteCfg r s
  | .readCfg r => Sys2Proof.Machine.execReadCfg r s
  | .writeComm => Sys2Proof.Machine.execWriteComm s
  | .readComm => Sys2Proof.Machine.execReadComm s
  | .wakeIdle => Sys2Proof.Machine.execWakeIdle s
  | .wakeSleep => Sys2Proof.Machine.execWakeSleep s
  | .setRefonA chip v => Sys2Proof.Machine.execSetRefonA chip v s
  | .setAdcoptA chip v => Sys2Proof.Machine.execSetAdcoptA chip v s
  | .setGpioA chip g v => Sys2Proof.Machine.execSetGpioA chip g v s
  | .setUvA chip t => Sys2Proof.Machine.execSetUvA chip t s
  | .setOvA chip t => Sys2Proof.Machine.execSetOvA chip t s
  | .setDccA chip c v => Sys2Proof.Machine.execSetDccA chip c v s
  | .setDctoA chip t => Sys2Proof.Machine.execSetDctoA chip t s
  | .getCfgA chip f src x => Sys2Proof.Machine.execGetCfgA chip f src x s
  | .setRefonB chip v => Sys2Proof.Machine.execSetRefonB chip v s
  | .setAdcoptB chip v => Sys2Proof.Machine.execSetAdcoptB chip v s
  | .setGpioB chip g v => Sys2Proof.Machine.execSetGpioB chip g v s
  | .setUvB chip t => Sys2Proof.Machine.execSetUvB chip t s
  | .setOvB chip t => Sys2Proof.Machine.execSetOvB chip t s
  | .setDccB chip c v => Sys2Proof.Machine.execSetDccB chip c v s
  | .setDctoB chip t => Sys2Proof.Machine.execSetDctoB chip t s
  | .getCfgB chip f src x => Sys2Proof.Machine.execGetCfgB chip f src x s
  | .setComm chip x b => Sys2Proof.Machine.execSetComm chip x b s
  | .getComm chip x src => Sys2Proof.Machine.execGetComm chip x src s
  | .readCellAll => Sys2Proof.Machine.execReadCellAll s
  | .readCellOne k => Sys2Proof.Machine.execReadCellOne k s
  | .readAuxAll => Sys2Proof.Machine.execReadAuxAll s
  | .readAuxOne k => Sys2Proof.Machine.execReadAuxOne k s
  | .readStatAll => Sys2Proof.Machine.execReadStatAll s
  | .readStatOne k => Sys2Proof.Machine.execReadStatOne k s
  | .getCell chip slot => Sys2Proof.Machine.execGetCell chip slot s
  | .getAux chip slot => Sys2Proof.Machine.execGetAux chip slot s
  | .getStat chip f => Sys2Proof.Machine.execGetStat chip f s
  | .getPecFlag chip id => Sys2Proof.Machine.execGetPecFlag chip id s
  | .getCounter chip id => Sys2Proof.Machine.execGetCounter chip id s
  | .resetCounters => Sys2Proof.Machine.execResetCounters s
  | .startAdcv md dcp ch => Sys2Proof.Machine.execStartAdcv md dcp ch s
  | .startAdax md chg => Sys2Proof.Machine.execStartAdax md chg s
  | .startAdstat md chst => Sys2Proof.Machine.execStartAdstat md chst s
  | .poll => Sys2Proof.Machine.execPoll s

end Sys2Proof.Machine
end

