-- ==== Sys2Proof/Machine/Step.lean ====
section
/-! DEFINITION. One step: the host presents its next request and the block runs the whole of it (00_scope R7,
60_exceptions R350). There is no program counter and no program store (10_state R31). -/

namespace Sys2Proof.Machine

/-- A presented word: the request it names, or its rejection (30_encoding R102, R103). -/
def runWord (w : RequestWord) (s : State) : Host.Outcome State Fault Refusal :=
  match decode w with
  | .ok i => exec i s
  | .error e => .next (rejectWord e s)

/-- One step. An ill-formed configuration runs no request (00_scope R9). With no request pending the block waits
(70_reset_and_hazards R370). Otherwise the environment's gap passes and the next request runs. -/
def step (s : State) : Host.Outcome State Fault Refusal :=
  if configWellFormed s.cfg then
    match s.requests with
    | [] => .next s
    | rq :: _ => runWord rq.word (present rq s)
  else .refused .illFormedConfig

/-- The state with one more request, of this word and no payload, as the next one the host presents. `step` takes its
requests there, since the block has no program store (10_state R31; log 5, log 6). -/
def State.withFetchWord (s : State) (nbits w : Nat) : State :=
  { s with requests := ⟨BitVec.ofNat 32 (w % 2 ^ nbits), []⟩ :: s.requests }

end Sys2Proof.Machine
end

