-- ==== Sys2Proof/Machine/Assembler.lean ====
section
/-! DEFINITION. The assembler syntax of requests (30_encoding R118) and the pseudo-requests (R119): how a line of text
names request words. It is the host's side; the block never reads it. -/

namespace Sys2Proof.Machine

/-! ### Pseudo-requests (30_encoding R119) -/

/-- A pseudo-request: it has no OP value, and its meaning is the meaning of its expansion. -/
inductive Pseudo where
  | setDccMask (r : CfgReg) (chip : ChipField) (m : BitVec 12)
  | setGpioMask (r : CfgReg) (chip : ChipField) (m : BitVec 5)
  | setThresholds (r : CfgReg) (chip : ChipField) (uv ov : U16)
  | measureCells (md : BitVec 2) (dcp : Bool)
  | configure (r : CfgReg)
  deriving DecidableEq, Repr

/-- SET_DCC of a register. -/
def dccOf : CfgReg → ChipField → BitVec 4 → Bool → Instr
  | .a => .setDccA
  | .b => .setDccB

/-- SET_GPIO of a register. -/
def gpioOf : CfgReg → ChipField → BitVec 3 → Bool → Instr
  | .a => .setGpioA
  | .b => .setGpioB

/-- SET_UV of a register. -/
def uvSetterOf : CfgReg → ChipField → U16 → Instr
  | .a => .setUvA
  | .b => .setUvB

/-- SET_OV of a register. -/
def ovSetterOf : CfgReg → ChipField → U16 → Instr
  | .a => .setOvA
  | .b => .setOvB

/-- The fixed list of requests a pseudo-request expands to (30_encoding R119). -/
def expand : Pseudo → List Instr
  | .setDccMask r chip m => (List.range 12).map fun c => dccOf r chip (BitVec.ofNat 4 c) (m.getLsbD c)
  | .setGpioMask r chip m => (List.range 5).map fun g => gpioOf r chip (BitVec.ofNat 3 g) (m.getLsbD g)
  | .setThresholds r chip uv ov => [uvSetterOf r chip uv, ovSetterOf r chip ov]
  | .measureCells md dcp => [.wakeSleep, .startAdcv md dcp 0, .wakeIdle, .poll, .wakeIdle, .readCellAll]
  | .configure r => [.wakeIdle, .writeCfg r, .wakeIdle, .readCfg r]

/-! ### Operands of a line -/

/-- An operand as written: a number, a name, or a bracketed byte list. -/
inductive AsmOperand where
  | num (v : Nat)
  | name (s : String)
  | bytes (l : List Nat)
  deriving DecidableEq, Repr

/-- A number that fits a field of `w` bits. -/
def fits (w : Nat) (v : Nat) : Option (BitVec w) :=
  if v < 2 ^ w then some (BitVec.ofNat w v) else none

/-- A numeric operand of `w` bits. -/
def asmField (w : Nat) : AsmOperand → Option (BitVec w)
  | .num v => fits w v
  | _ => none

/-- A one-bit operand. -/
def asmBit : AsmOperand → Option Bool
  | .num 0 => some false
  | .num 1 => some true
  | _ => none

/-- A configuration register, A or B. -/
def asmReg : AsmOperand → Option CfgReg
  | .name "A" => some .a
  | .name "B" => some .b
  | _ => none

/-- A sub-register index: a number 0..5 or a letter A..F. -/
def asmSubreg : AsmOperand → Option (BitVec 3)
  | .num v => if v ≤ 5 then some (BitVec.ofNat 3 v) else none
  | .name s => (["A", "B", "C", "D", "E", "F"].findIdx? (· == s)).map (BitVec.ofNat 3)
  | .bytes _ => none

/-- src: tx or rx. -/
def asmSrc : AsmOperand → Option Copy
  | .name "tx" => some .tx
  | .name "rx" => some .rx
  | _ => none

/-- A configuration field: its id or its name (30_encoding R107). -/
def asmCfgField : AsmOperand → Option (BitVec 4)
  | .num v => fits 4 v
  | .name s =>
    (["ADCOPT", "REFON", "GPIO_PULL", "UV_RAW", "OV_RAW", "UV_THRESHOLD", "OV_THRESHOLD", "DCC", "DCTO",
      "BYTE"].findIdx? (· == s)).map (BitVec.ofNat 4)
  | .bytes _ => none

/-! ### One line (30_encoding R118, R119) -/

/-- The request of an instruction that takes no payload. -/
def asmRequest (i : Instr) : Request :=
  ⟨encode i, []⟩

/-- A request without operands. -/
def asmPlain (i : Instr) : List AsmOperand → Option (List Request)
  | [] => some [asmRequest i]
  | _ => none

/-- A request with one operand. -/
def asmOne {α : Type} (a : AsmOperand → Option α) (mk : α → Instr) : List AsmOperand → Option (List Request)
  | [x] => (a x).map fun x => [asmRequest (mk x)]
  | _ => none

/-- A request with two operands. -/
def asmTwo {α β : Type} (a : AsmOperand → Option α) (b : AsmOperand → Option β) (mk : α → β → Instr) :
    List AsmOperand → Option (List Request)
  | [x, y] => (a x).bind fun x => (b y).map fun y => [asmRequest (mk x y)]
  | _ => none

/-- A request with three operands. -/
def asmThree {α β γ : Type} (a : AsmOperand → Option α) (b : AsmOperand → Option β) (c : AsmOperand → Option γ)
    (mk : α → β → γ → Instr) : List AsmOperand → Option (List Request)
  | [x, y, z] => (a x).bind fun x => (b y).bind fun y => (c z).map fun z => [asmRequest (mk x y z)]
  | _ => none

/-- A request with four operands. -/
def asmFour {α β γ δ : Type} (a : AsmOperand → Option α) (b : AsmOperand → Option β) (c : AsmOperand → Option γ)
    (d : AsmOperand → Option δ) (mk : α → β → γ → δ → Instr) : List AsmOperand → Option (List Request)
  | [x, y, z, u] =>
    (a x).bind fun x => (b y).bind fun y => (c z).bind fun z => (d u).map fun u => [asmRequest (mk x y z u)]
  | _ => none

/-- The requests of a pseudo-request. -/
def asmExpand (p : Pseudo) : List Request :=
  (expand p).map asmRequest

/-- PEC_CALC with its bracketed payload. -/
def asmPecCalc : List AsmOperand → Option (List Request)
  | [.bytes l] => (l.mapM (fits 8)).map fun payload => [⟨encode .pecCalc, payload⟩]
  | _ => none

/-- What each mnemonic makes of its operands, in the operand order of 30_encoding R118 and R119. -/
def asmTable : List (String × (List AsmOperand → Option (List Request))) :=
  [("PEC_CALC", asmPecCalc),
   ("SEND_CMD", asmOne (asmField 11) .sendCmd),
   ("WRITE_CFG", asmOne asmReg .writeCfg),
   ("READ_CFG", asmOne asmReg .readCfg),
   ("WRITE_COMM", asmPlain .writeComm),
   ("READ_COMM", asmPlain .readComm),
   ("WAKE_IDLE", asmPlain .wakeIdle),
   ("WAKE_SLEEP", asmPlain .wakeSleep),
   ("SET_REFON.A", asmTwo (asmField 8) asmBit .setRefonA),
   ("SET_REFON.B", asmTwo (asmField 8) asmBit .setRefonB),
   ("SET_ADCOPT.A", asmTwo (asmField 8) asmBit .setAdcoptA),
   ("SET_ADCOPT.B", asmTwo (asmField 8) asmBit .setAdcoptB),
   ("SET_GPIO.A", asmThree (asmField 8) (asmField 3) asmBit .setGpioA),
   ("SET_GPIO.B", asmThree (asmField 8) (asmField 3) asmBit .setGpioB),
   ("SET_UV.A", asmTwo (asmField 8) (asmField 16) .setUvA),
   ("SET_UV.B", asmTwo (asmField 8) (asmField 16) .setUvB),
   ("SET_OV.A", asmTwo (asmField 8) (asmField 16) .setOvA),
   ("SET_OV.B", asmTwo (asmField 8) (asmField 16) .setOvB),
   ("SET_DCC.A", asmThree (asmField 8) (asmField 4) asmBit .setDccA),
   ("SET_DCC.B", asmThree (asmField 8) (asmField 4) asmBit .setDccB),
   ("SET_DCTO.A", asmTwo (asmField 8) (asmField 4) .setDctoA),
   ("SET_DCTO.B", asmTwo (asmField 8) (asmField 4) .setDctoB),
   ("GET_CFG.A", asmFour (asmField 8) asmCfgField (asmField 4) asmSrc fun chip f x src => .getCfgA chip f src x),
   ("GET_CFG.B", asmFour (asmField 8) asmCfgField (asmField 4) asmSrc fun chip f x src => .getCfgB chip f src x),
   ("SET_COMM", asmThree (asmField 8) (asmField 3) (asmField 8) .setComm),
   ("GET_COMM", asmThree (asmField 8) (asmField 3) asmSrc .getComm),
   ("READ_CELL_ALL", asmPlain .readCellAll),
   ("READ_CELL_ONE", asmOne asmSubreg .readCellOne),
   ("READ_AUX_ALL", asmPlain .readAuxAll),
   ("READ_AUX_ONE", asmOne asmSubreg .readAuxOne),
   ("READ_STAT_ALL", asmPlain .readStatAll),
   ("READ_STAT_ONE", asmOne asmSubreg .readStatOne),
   ("GET_CELL", asmTwo (asmField 8) (asmField 5) .getCell),
   ("GET_AUX", asmTwo (asmField 8) (asmField 4) .getAux),
   ("GET_STAT", asmTwo (asmField 8) (asmField 4) .getStat),
   ("GET_PEC_FLAG", asmTwo (asmField 8) (asmField 4) .getPecFlag),
   ("GET_COUNTER", asmTwo (asmField 8) (asmField 4) .getCounter),
   ("RESET_COUNTERS", asmPlain .resetCounters),
   ("START_ADCV", asmThree (asmField 2) asmBit (asmField 3) .startAdcv),
   ("START_ADAX", asmTwo (asmField 2) (asmField 3) .startAdax),
   ("START_ADSTAT", asmTwo (asmField 2) (asmField 3) .startAdstat),
   ("POLL", asmPlain .poll)]

/-- The pseudo-request mnemonics (30_encoding R119). -/
def asmPseudo (m : String) (ops : List AsmOperand) : Option Pseudo :=
  match m, ops with
  | "SET_DCC_MASK.A", [c, x] => (asmField 8 c).bind fun c => (asmField 12 x).map fun x => .setDccMask .a c x
  | "SET_DCC_MASK.B", [c, x] => (asmField 8 c).bind fun c => (asmField 12 x).map fun x => .setDccMask .b c x
  | "SET_GPIO_MASK.A", [c, x] => (asmField 8 c).bind fun c => (asmField 5 x).map fun x => .setGpioMask .a c x
  | "SET_GPIO_MASK.B", [c, x] => (asmField 8 c).bind fun c => (asmField 5 x).map fun x => .setGpioMask .b c x
  | "SET_THRESHOLDS.A", [c, u, o] =>
    (asmField 8 c).bind fun c => (asmField 16 u).bind fun u => (asmField 16 o).map fun o => .setThresholds .a c u o
  | "SET_THRESHOLDS.B", [c, u, o] =>
    (asmField 8 c).bind fun c => (asmField 16 u).bind fun u => (asmField 16 o).map fun o => .setThresholds .b c u o
  | "MEASURE_CELLS", [d, p] => (asmField 2 d).bind fun d => (asmBit p).map fun p => .measureCells d p
  | "CONFIGURE", [r] => (asmReg r).map .configure
  | _, _ => none

/-- The requests of a mnemonic and its operands. -/
def assemble (m : String) (ops : List AsmOperand) : Option (List Request) :=
  match asmTable.lookup m with
  | some f => f ops
  | none => (asmPseudo m ops).map asmExpand

/-! ### Reading a line of text -/

/-- A text cut at every comma outside brackets. -/
def splitCommas : Bool → List Char → List (List Char)
  | _, [] => [[]]
  | inside, c :: cs =>
    let rest := splitCommas (if c = '[' then true else if c = ']' then false else inside) cs
    if c = ',' ∧ inside = false then [] :: rest
    else match rest with
      | [] => [[c]]
      | word :: words => (c :: word) :: words

/-- A text without blanks. -/
def withoutBlanks (cs : List Char) : List Char :=
  cs.filter (· != ' ')

/-- The value of a digit below a base. -/
def digitValue (base : Nat) (c : Char) : Option Nat :=
  let v :=
    if '0' ≤ c ∧ c ≤ '9' then c.toNat - '0'.toNat
    else if 'a' ≤ c ∧ c ≤ 'f' then c.toNat - 'a'.toNat + 10
    else if 'A' ≤ c ∧ c ≤ 'F' then c.toNat - 'A'.toNat + 10
    else base
  if v < base then some v else none

/-- A run of digits, at least one. -/
def digits (base : Nat) (cs : List Char) : Option Nat :=
  if cs.isEmpty then none else cs.foldlM (fun v c => (digitValue base c).map (v * base + ·)) 0

/-- A number, decimal or 0x hexadecimal (30_encoding R118). -/
def readNumber : List Char → Option Nat
  | '0' :: 'x' :: cs => digits 16 cs
  | cs => digits 10 cs

/-- One operand: a bracketed byte list, a number or a name. -/
def readOperand (cs : List Char) : Option AsmOperand :=
  match cs with
  | [] => none
  | '[' :: rest =>
    match rest.getLast? with
    | some ']' =>
      if rest.length = 1 then some (.bytes [])
      else ((splitCommas false rest.dropLast).mapM readNumber).map .bytes
    | _ => none
  | c :: _ => if '0' ≤ c ∧ c ≤ '9' then (readNumber cs).map .num else some (.name (String.ofList cs))

/-- The operands of a line, separated by commas. -/
def readOperands (cs : List Char) : Option (List AsmOperand) :=
  let text := withoutBlanks cs
  if text.isEmpty then some [] else (splitCommas false text).mapM readOperand

/-- One line: the mnemonic up to the first blank, then its operands (30_encoding R118). -/
def assembleLine (line : String) : Option (List Request) :=
  let cs := line.toList
  (readOperands (cs.dropWhile (· != ' '))).bind (assemble (String.ofList (cs.takeWhile (· != ' '))))

end Sys2Proof.Machine
end

