-- ==== Sys2Proof/WellFormed.lean ====
section
/-! DEFINITION. When the operands of a request are in range for a configuration: checks (b) and (c) of 30_encoding R103
with the ranges of R114 (the `ranges` of the opcode table). Written from the map, apart from the requests' own checks,
so that a claim can hold the one against the other. -/

namespace Sys2Proof

/-- Check (b) of 30_encoding R103 for one CHIP field: below N (R104). -/
def chipInChain (c : Cfg) (chip : ChipField) : Bool :=
  decide (chip.toNat < c.n)

/-- The range of GET_CFG's index operand (30_encoding R107): one entry per field id. -/
def cfgIndexInRange (f x : Nat) (src : Copy) : Bool :=
  match f, src with
  | 2, _ => decide (x ≤ 4)
  | 7, _ => decide (x ≤ 11)
  | 9, .tx => decide (x ≤ 5)
  | 9, .rx => decide (x ≤ 7)
  | _, _ => decide (x = 0)

/-- Checks (b) and (c) of 30_encoding R103, by the rows of R114. -/
def wellFormed (c : Cfg) : Instr → Bool
  | .pecCalc => true
  | .sendCmd _ => true
  | .writeCfg _ => true
  | .readCfg _ => true
  | .writeComm => true
  | .readComm => true
  | .wakeIdle => true
  | .wakeSleep => true
  | .setRefonA chip _ => chipInChain c chip
  | .setAdcoptA chip _ => chipInChain c chip
  | .setGpioA chip g _ => chipInChain c chip && decide (g.toNat ≤ 4)
  | .setUvA chip t => chipInChain c chip && decide (16 ≤ t.toNat)
  | .setOvA chip _ => chipInChain c chip
  | .setDccA chip b _ => chipInChain c chip && decide (b.toNat ≤ 11)
  | .setDctoA chip _ => chipInChain c chip
  | .getCfgA chip f src x => chipInChain c chip && decide (f.toNat ≤ 9) && cfgIndexInRange f.toNat x.toNat src
  | .setRefonB chip _ => chipInChain c chip
  | .setAdcoptB chip _ => chipInChain c chip
  | .setGpioB chip g _ => chipInChain c chip && decide (g.toNat ≤ 4)
  | .setUvB chip t => chipInChain c chip && decide (16 ≤ t.toNat)
  | .setOvB chip _ => chipInChain c chip
  | .setDccB chip b _ => chipInChain c chip && decide (b.toNat ≤ 11)
  | .setDctoB chip _ => chipInChain c chip
  | .getCfgB chip f src x => chipInChain c chip && decide (f.toNat ≤ 9) && cfgIndexInRange f.toNat x.toNat src
  | .setComm chip x _ => chipInChain c chip && decide (x.toNat ≤ 5)
  | .getComm chip x src => chipInChain c chip && decide (x.toNat ≤ match src with | .tx => 5 | .rx => 7)
  | .readCellAll => true
  | .readCellOne k => decide (k.toNat < c.cellSubregs)
  | .readAuxAll => true
  | .readAuxOne k => decide (k.toNat < c.auxSubregs)
  | .readStatAll => true
  | .readStatOne k => decide (k.toNat < c.statSubregs)
  | .getCell chip slot => chipInChain c chip && decide (slot.toNat ≤ 17)
  | .getAux chip slot => chipInChain c chip && decide (slot.toNat ≤ 11)
  | .getStat chip f => chipInChain c chip && decide (f.toNat ≤ 8)
  | .getPecFlag chip id => chipInChain c chip && decide (id.toNat ≤ 13)
  | .getCounter chip id => chipInChain c chip && decide (id.toNat ≤ 13)
  | .resetCounters => true
  | .startAdcv _ _ ch => decide (ch.toNat ≤ 6)
  | .startAdax _ chg => decide (chg.toNat ≤ 6)
  | .startAdstat _ chst => decide (chst.toNat ≤ 4)
  | .poll => true

/-- The CHIP field of a per-chip request; none for a chain-wide one (30_encoding R101, R114). -/
def chipField : Instr → Option ChipField
  | .setRefonA chip _ | .setAdcoptA chip _ | .setGpioA chip _ _ | .setUvA chip _ | .setOvA chip _ | .setDccA chip _ _
  | .setDctoA chip _ | .getCfgA chip _ _ _ | .setRefonB chip _ | .setAdcoptB chip _ | .setGpioB chip _ _
  | .setUvB chip _ | .setOvB chip _ | .setDccB chip _ _ | .setDctoB chip _ | .getCfgB chip _ _ _ | .setComm chip _ _
  | .getComm chip _ _ | .getCell chip _ | .getAux chip _ | .getStat chip _ | .getPecFlag chip _
  | .getCounter chip _ => some chip
  | .pecCalc | .sendCmd _ | .writeCfg _ | .readCfg _ | .writeComm | .readComm | .wakeIdle | .wakeSleep | .readCellAll
  | .readCellOne _ | .readAuxAll | .readAuxOne _ | .readStatAll | .readStatOne _ | .resetCounters | .startAdcv _ _ _
  | .startAdax _ _ | .startAdstat _ _ | .poll => none

/-- Whether a payload is allowed with a request: PEC_CALC takes up to PEC_MAX_LEN bytes, every other request none
(30_encoding R103 (d), R114). -/
def payloadAllowed (c : Cfg) (payload : List Byte) (i : Instr) : Bool :=
  if i = .pecCalc then decide (payload.length ≤ c.pecMaxLen) else payload.isEmpty

/-- The reason code of the first of the checks (b), (c), (d) that fails, in this order (60_exceptions R343). -/
def rejection (c : Cfg) (payload : List Byte) (i : Instr) : Option Nat :=
  if (chipField i).any (fun chip => !chipInChain c chip) then some 2
  else if !wellFormed c i then some 3
  else if !payloadAllowed c payload i then some 4
  else none

end Sys2Proof
end

