-- ==== Sys2Proof/Safety.lean ====
section
/-! DEFINITION. What claims about the block are stated in: the invariant of a request boundary, the statuses and the
bus events a request may have, and which requests may write which field. -/

namespace Sys2Proof

open Sys2Proof.Machine

/-! ### The invariant of a request boundary -/

/-- What holds of one chip's register model at every request boundary: no counter is past its width (10_state R45); no
setter ever sets bit 1 of configuration byte 0 (10_state R47, 93 I10); what belongs to a sub-register the shape does
not have keeps its reset value (10_state R36, 44_measurement_parser R276). -/
def chipInv (c : Cfg) (ch : Chip) : Bool :=
  ch.cnt.toList.all (fun x => decide (x ≤ 2 ^ c.cntW - 1)) &&
  !(cfgTx .a 0 ch).getLsbD 1 && !(cfgTx .b 0 ch).getLsbD 1 &&
  (ch.cellCodes.toList.drop (3 * c.cellSubregs)).all (· == 0) &&
  (ch.cellPec.toList.drop c.cellSubregs).all (· == false) &&
  (ch.auxCodes.toList.drop (3 * c.auxSubregs)).all (· == 0) &&
  (ch.auxPec.toList.drop c.auxSubregs).all (· == false) &&
  (ch.statPec.toList.drop c.statSubregs).all (· == false) &&
  (decide (2 ≤ c.statSubregs) ||
    ((ch.statCodes[3]?.getD 0) == 0 && ch.statFlags.toList.all (· == 0) && !ch.statMuxFail && !ch.statThsd))

/-- What a result record may be (60_exceptions R341): the shape of `val` and `mism` for each status. -/
def resultInv (c : Cfg) (r : Result) : Bool :=
  decide (r.val < 2 ^ max 32 c.cntW) && r.mism.all (fun m => decide (m.1 < c.n ∧ m.2 ≤ 14)) &&
  match r.st with
  | .ok => r.mism.isEmpty
  | .pecMismatch => decide (r.val = r.mism.length) && !r.mism.isEmpty
  | .convDone => decide (1 ≤ r.val ∧ r.val ≤ c.pollMax) && r.mism.isEmpty
  | .convTimeout => decide (r.val = 0) && r.mism.isEmpty
  | .invalidParam => decide (1 ≤ r.val ∧ r.val ≤ 4) && r.mism.isEmpty
  | .shapeError => decide (r.val < 6)
  | .illegalRequest => decide (r.val < 256) && r.mism.isEmpty

/-- The invariant of a request boundary: one register model per chip of the chain (10_state R30), the sequencer ready
(42_link_sequencer R205), and every chip and result as above. -/
def boundaryInv (s : State) : Bool :=
  decide (s.chips.length = s.cfg.n) && decide (s.seq = .ready) && s.chips.all (chipInv s.cfg) &&
  s.results.all (resultInv s.cfg)

/-! ### What a request may do -/

/-- The statuses a request can end with (60_exceptions R347). -/
def statusesOf : Instr → List Status
  | .pecCalc | .getCfgA _ _ _ _ | .getCfgB _ _ _ _ | .getComm _ _ _ | .getCell _ _ | .getAux _ _ | .getStat _ _
  | .getPecFlag _ _ | .getCounter _ _ | .setRefonA _ _ | .setRefonB _ _ | .setAdcoptA _ _ | .setAdcoptB _ _
  | .setDctoA _ _ | .setDctoB _ _ | .setComm _ _ _ | .setGpioA _ _ _ | .setGpioB _ _ _ | .setUvA _ _ | .setUvB _ _
  | .setOvA _ _ | .setOvB _ _ | .setDccA _ _ _ | .setDccB _ _ _ | .resetCounters => [.ok, .invalidParam]
  | .sendCmd _ | .writeCfg _ | .writeComm | .wakeIdle | .wakeSleep | .startAdcv _ _ _ | .startAdax _ _
  | .startAdstat _ _ => [.ok, .invalidParam]
  | .readCfg _ | .readComm | .readCellAll | .readCellOne _ | .readAuxAll | .readAuxOne _ | .readStatAll
  | .readStatOne _ => [.ok, .pecMismatch, .shapeError, .invalidParam]
  | .poll => [.convDone, .convTimeout, .invalidParam]

/-- The most bus events a request emits (70_reset_and_hazards R391). -/
def eventBound (c : Cfg) : Instr → Nat
  | .pecCalc | .getCfgA _ _ _ _ | .getCfgB _ _ _ _ | .getComm _ _ _ | .getCell _ _ | .getAux _ _ | .getStat _ _
  | .getPecFlag _ _ | .getCounter _ _ | .setRefonA _ _ | .setRefonB _ _ | .setAdcoptA _ _ | .setAdcoptB _ _
  | .setDctoA _ _ | .setDctoB _ _ | .setComm _ _ _ | .setGpioA _ _ _ | .setGpioB _ _ _ | .setUvA _ _ | .setUvB _ _
  | .setOvA _ _ | .setOvB _ _ | .setDccA _ _ _ | .setDccB _ _ _ | .resetCounters => 0
  | .sendCmd _ | .writeCfg _ | .writeComm | .readCfg _ | .readComm | .readCellOne _ | .readAuxOne _ | .readStatOne _
  | .startAdcv _ _ _ | .startAdax _ _ | .startAdstat _ _ => 1
  | .readCellAll => c.cellSubregs
  | .readAuxAll => c.auxSubregs
  | .readStatAll => c.statSubregs
  | .wakeIdle => c.n
  | .wakeSleep => 2 * c.n
  | .poll => 1 + c.pollMax

/-- The fields of a chip's register model, as the access table groups them (10_state R52). -/
inductive RegField where
  | cfgTx (r : CfgReg)
  | cfgRx (r : CfgReg)
  | cfgPecErr (r : CfgReg)
  | cell
  | aux
  | stat
  | commTx
  | commRx
  | cnt
  deriving DecidableEq, Repr

/-- The "written by" column of the access table (10_state R52). -/
def writes : RegField → Instr → Bool
  | .cfgTx .a, .setRefonA _ _ | .cfgTx .a, .setAdcoptA _ _ | .cfgTx .a, .setGpioA _ _ _ | .cfgTx .a, .setUvA _ _
  | .cfgTx .a, .setOvA _ _ | .cfgTx .a, .setDccA _ _ _ | .cfgTx .a, .setDctoA _ _ => true
  | .cfgTx .b, .setRefonB _ _ | .cfgTx .b, .setAdcoptB _ _ | .cfgTx .b, .setGpioB _ _ _ | .cfgTx .b, .setUvB _ _
  | .cfgTx .b, .setOvB _ _ | .cfgTx .b, .setDccB _ _ _ | .cfgTx .b, .setDctoB _ _ => true
  | .cfgRx r, .readCfg r' => decide (r = r')
  | .cfgPecErr r, .readCfg r' => decide (r = r')
  | .cell, .readCellAll | .cell, .readCellOne _ => true
  | .aux, .readAuxAll | .aux, .readAuxOne _ => true
  | .stat, .readStatAll | .stat, .readStatOne _ => true
  | .commTx, .setComm _ _ _ => true
  | .commRx, .readComm => true
  | .cnt, .readCfg _ | .cnt, .readCellAll | .cnt, .readCellOne _ | .cnt, .readAuxAll | .cnt, .readAuxOne _
  | .cnt, .readStatAll | .cnt, .readStatOne _ | .cnt, .resetCounters => true
  | _, _ => false

/-- Whether two chips agree on a field of the access table. -/
def agreeOn (f : RegField) (c d : Chip) : Prop :=
  match f with
  | .cfgTx r => (cfgGroup r c).tx = (cfgGroup r d).tx
  | .cfgRx r => (cfgGroup r c).rx = (cfgGroup r d).rx
  | .cfgPecErr r => (cfgGroup r c).pecErr = (cfgGroup r d).pecErr
  | .cell => c.cellCodes = d.cellCodes ∧ c.cellPec = d.cellPec
  | .aux => c.auxCodes = d.auxCodes ∧ c.auxPec = d.auxPec
  | .stat => c.statCodes = d.statCodes ∧ c.statFlags = d.statFlags ∧ c.statMuxFail = d.statMuxFail ∧
      c.statThsd = d.statThsd ∧ c.statPec = d.statPec
  | .commTx => c.commTx = d.commTx
  | .commRx => c.commRx = d.commRx
  | .cnt => c.cnt = d.cnt

/-- The two wake requests (42_link_sequencer R206, R207). -/
def isWake (i : Instr) : Bool :=
  decide (i = .wakeIdle) || decide (i = .wakeSleep)

/-- The host premise ShortGap: the link stays as the last request left it until the next one (42_link_sequencer
R201). -/
def shortGap (s : State) : Prop :=
  gapChoice s = 0

/-- The mark of an event, if it has one (42_link_sequencer R203). -/
def markOf : Event → Option Rel
  | .tx _ rel => some rel
  | .txrx _ _ _ rel => some rel
  | .fill _ _ rel => some rel
  | .delay _ => none

/-- An event with its mark erased, that is with one fixed mark: what was sent, asked for, received and waited is kept. -/
def eraseMark : Event → Event
  | .tx bytes _ => .tx bytes .unreliable
  | .txrx bytes n response _ => .txrx bytes n response .unreliable
  | .fill n response _ => .fill n response .unreliable
  | .delay us => .delay us

/-! ### What successive receives of one request return -/

/-- The state of the oracle after `k` more receives, all else as it is. -/
def afterReceives (k : Nat) (s : State) : State :=
  { s with answers := s.answers.drop k, draws := s.draws + k }

/-- The response of receive number `k` of a request that starts in `s` (20_memory R86). -/
def responseNo (s : State) (k : Nat) : List Byte :=
  responseOf (afterReceives k s)

/-- What comes back on a fill of n bytes that is receive number `k` of a request that starts in `s`. -/
def fillNo (n : Nat) (s : State) (k : Nat) : List Byte :=
  fillOf n (afterReceives k s)

/-! ### Configuration bytes as 48 bits -/

/-- Bit b of a list of configuration bytes: bit b mod 8 of byte b / 8. In this numbering ADCOPT is bit 0, REFON bit 2,
GPIO_PULL[g] bit 3+g, UV_RAW bits 8..19, OV_RAW bits 20..31, DCC[c] bit 32+c and DCTO bits 44..47 (10_state R47). -/
def cfgBit (bytes : List Byte) (b : Nat) : Bool :=
  (bytes[b / 8]?.getD 0).getLsbD (b % 8)

/-- One counter of one chip; 0 where there is no such chip (10_state R45). -/
def counterAt (s : State) (chip c : Nat) : Nat :=
  (chipOf s chip).cnt[c]?.getD 0

end Sys2Proof
end

