-- ==== Sys2Proof/Certificates/Slice0/Obligations.lean ====
section
/-! DEFINITION. The statements for the provers. The block has no addressable memory, no program counter and no status
register (10_state R31, R49, 20_memory R80), so a frame says what happens to every other field of the state: the register
model of every chip, the link, the trace, the results and the inputs. -/

open Sys2Proof Sys2Proof.Machine

/-! ### Words shared by the statements -/

/-- The rows of the opcode table: OP and mask, copied from spec/opcode_table.json (30_encoding R114). -/
def Sys2Proof.opcodeRows : List (Nat × Nat) :=
  [(0x01, 0xFFFFFFFF), (0x10, 0xFFFFF800), (0x11, 0xFFFFFFFE), (0x12, 0xFFFFFFFE), (0x13, 0xFFFFFFFF),
   (0x14, 0xFFFFFFFF), (0x20, 0xFFFFFFFF), (0x21, 0xFFFFFFFF)] ++
  [(0x30, 0xFF00FFFE), (0x31, 0xFF00FFFE), (0x32, 0xFF00FEF8), (0x33, 0xFF000000), (0x34, 0xFF000000),
   (0x35, 0xFF00FEF0), (0x36, 0xFF00FFF0), (0x37, 0xFF00F070)] ++
  [(0x38, 0xFF00FFFE), (0x39, 0xFF00FFFE), (0x3A, 0xFF00FEF8), (0x3B, 0xFF000000), (0x3C, 0xFF000000),
   (0x3D, 0xFF00FEF0), (0x3E, 0xFF00FFF0), (0x3F, 0xFF00F070), (0x40, 0xFF00F800), (0x41, 0xFF00E8FF)] ++
  [(0x50, 0xFFFFFFFF), (0x51, 0xFFFFFFF8), (0x52, 0xFFFFFFFF), (0x53, 0xFFFFFFF8), (0x54, 0xFFFFFFFF),
   (0x55, 0xFFFFFFF8), (0x58, 0xFF00FFE0), (0x59, 0xFF00FFF0), (0x5A, 0xFF00FFF0), (0x5B, 0xFF00FFF0),
   (0x5C, 0xFF00FFF0), (0x5F, 0xFFFFFFFF)] ++
  [(0x60, 0xFFFFFF88), (0x61, 0xFFFFFF8C), (0x62, 0xFFFFFF8C), (0x63, 0xFFFFFFFF)]

/-- `(W & mask) = match` for the row of a mask (30_encoding R114). -/
def Sys2Proof.wordMatches (w : RequestWord) (mask : Nat) : Prop :=
  w &&& BitVec.ofNat 32 mask = (opOf w).setWidth 32 <<< 24

/-- The state in which the next request runs: the gap has passed and the request and its payload are presented. -/
def Sys2Proof.presented (s : State) (payload : List Byte) : State :=
  { s with
    link := lowerLink s.link (gapChoice s)
    gaps := s.gaps.tail
    gapDraws := s.gapDraws + 1
    payload := payload
    requests := s.requests.tail }

/-- A state with one more result and nothing else changed. -/
def Sys2Proof.withResult (s : State) (st : Status) (val : Nat) (mism : List (Nat × Nat)) : State :=
  { s with results := s.results ++ [⟨st, val, mism⟩] }

/-- What a setter of the field of `width` bits at bit `lo` of configuration register r does on the way from s to t: the
field of that chip holds v, every other bit of the 48, every other field of that chip, every other chip and every other
field of the state is as before, and the one result is OK with `val` (43_register_codec R220, R221). -/
def Sys2Proof.setterEffect (r : CfgReg) (chip lo width v val : Nat) (s t : State) : Prop :=
  t = { withResult s .ok val [] with chips := t.chips } ∧
  t.chips.length = s.chips.length ∧
  (∀ j, j ≠ chip → t.chips[j]? = s.chips[j]?) ∧
  (∃ tx, chipOf t chip = setCfgGroup r { cfgGroup r (chipOf s chip) with tx := tx } (chipOf s chip)) ∧
  ∀ b, b < 48 → cfgBit (cfgGroup r (chipOf t chip)).tx.toList b =
    if lo ≤ b ∧ b < lo + width then v.testBit (b - lo) else cfgBit (cfgGroup r (chipOf s chip)).tx.toList b

/-- The 8 bytes of a response that belong to logical chip i (41_frame_builder R160, R166). -/
def Sys2Proof.blockOf (c : Cfg) (response : List Byte) (i : Nat) : List Byte :=
  (response.drop (8 * pos c i)).take 8

/-- Whether a block's received PEC is the PEC of its six data bytes (40_pec15 R144). -/
def Sys2Proof.blockGood (block : List Byte) : Bool :=
  pecOk (block.take 6) (block[6]?.getD 0) (block[7]?.getD 0)

/-- The chips whose block mismatches, ascending. -/
def Sys2Proof.badChips (c : Cfg) (response : List Byte) : List Nat :=
  (List.range c.n).filter fun i => !blockGood (blockOf c response i)

/-- The result of a completed exchange of register id `id` (60_exceptions R344). -/
def Sys2Proof.exchangeResult (c : Cfg) (response : List Byte) (id : Nat) : Result :=
  ⟨if badChips c response = [] then .ok else .pecMismatch, (badChips c response).length,
    (badChips c response).map fun i => (i, id)⟩

/-- The command codes a read of sub-register k of a kind sends, written out: RDCVA to RDCVF, RDAUXA to RDAUXD, RDSTATA and
RDSTATB (30_encoding R106, R112). A k past the last one, which no well-formed configuration reaches, stands with the
first. -/
def Sys2Proof.subregCode (t : CmdTable) (kind : Kind) (k : Nat) : CmdCode :=
  match kind with
  | .cell =>
    match k with
    | 1 => t.rdcvb
    | 2 => t.rdcvc
    | 3 => t.rdcvd
    | 4 => t.rdcve
    | 5 => t.rdcvf
    | _ => t.rdcva
  | .aux =>
    match k with
    | 1 => t.rdauxb
    | 2 => t.rdauxc
    | 3 => t.rdauxd
    | _ => t.rdauxa
  | .stat =>
    match k with
    | 1 => t.rdstatb
    | _ => t.rdstata

/-- The little-endian code of two received bytes, as a sum (20_memory R81). -/
def Sys2Proof.codeOf (lo hi : Byte) : U16 :=
  BitVec.ofNat 16 (lo.toNat + 256 * hi.toNat)

/-- What one completed single-exchange read does on the way from s to t, apart from the register model: the one bus
event, which sends the command frame of the code, the one result, the answer used up, and nothing else. -/
def Sys2Proof.exchangeFrame (c : CmdCode) (id : Nat) (s t : State) : Prop :=
  t = { s with
    chips := t.chips
    trace := s.trace ++ [.txrx (commandFrame c) (8 * s.cfg.n) (responseOf s) (relOf s.link)]
    answers := s.answers.tail
    draws := s.draws + 1
    results := s.results ++ [exchangeResult s.cfg (responseOf s) id] } ∧
  t.chips.length = s.chips.length

/-- The counters of chip i after an exchange of register id `id`: on a mismatch the global counter and the counter of
the id are incremented, saturating; no other changes (44_measurement_parser R268, R269). -/
def Sys2Proof.countersAfter (s t : State) (i id : Nat) (good : Bool) : Prop :=
  ∀ c, c < 14 → counterAt t i c =
    if good = false ∧ (c = 0 ∨ c = if id ≤ 1 then 1 else id) then
      (if counterAt s i c = 2 ^ s.cfg.cntW - 1 then counterAt s i c else counterAt s i c + 1)
    else counterAt s i c

/-- Byte m of a block. -/
def Sys2Proof.byteAt (block : List Byte) (m : Nat) : Byte :=
  block[m]?.getD 0

/-- The byte a poll receives at its fill number j + 1. -/
def Sys2Proof.pollByte (s : State) (j : Nat) : Byte :=
  byteAt (fillNo 1 s j) 0

/-- The blocks after the command frame of a write frame, last block first: how a chain that stores what it was sent
answers the read (41_frame_builder R163, R166). -/
def Sys2Proof.readOrder (n : Nat) (frame : List Byte) : List Byte :=
  (List.range n).flatMap fun j => (frame.drop (4 + 8 * (n - 1 - j))).take 8

/-- The response whose block at physical position j carries data D(j) with its correct PEC
(44_measurement_parser R285). -/
def Sys2Proof.correctResponse (n : Nat) (data : Nat → Vector Byte 6) : List Byte :=
  (List.range n).flatMap fun j => (data j).toList ++ pecBytes (data j).toList

/-- The chip holds in sub-register k of a kind what the six data bytes d decode to (44_measurement_parser R263,
R266). -/
def Sys2Proof.holdsDecoded (kind : Kind) (k : Nat) (d : List Byte) (c : Chip) : Prop :=
  match kind with
  | .cell => ∀ m, m < 3 → c.cellCodes[3 * k + m]? = some (codeOf (byteAt d (2 * m)) (byteAt d (2 * m + 1)))
  | .aux => ∀ m, m < 3 → c.auxCodes[3 * k + m]? = some (codeOf (byteAt d (2 * m)) (byteAt d (2 * m + 1)))
  | .stat =>
    if k = 0 then ∀ m, m < 3 → c.statCodes[m]? = some (codeOf (byteAt d (2 * m)) (byteAt d (2 * m + 1)))
    else c.statCodes[3]? = some (codeOf (byteAt d 0) (byteAt d 1)) ∧
      c.statFlags.toList = [byteAt d 2, byteAt d 3, byteAt d 4] ∧
      c.statThsd = (byteAt d 5).getLsbD 0 ∧ c.statMuxFail = (byteAt d 5).getLsbD 1

/-- Two chips hold the same codes in every sub-register of every kind but sub-register k of one kind
(44_measurement_parser R265). -/
def Sys2Proof.otherCodesSame (kind : Kind) (k : Nat) (c d : Chip) : Prop :=
  (∀ slot, (kind = .cell ∧ 3 * k ≤ slot ∧ slot < 3 * k + 3) ∨ c.cellCodes[slot]? = d.cellCodes[slot]?) ∧
  (∀ slot, (kind = .aux ∧ 3 * k ≤ slot ∧ slot < 3 * k + 3) ∨ c.auxCodes[slot]? = d.auxCodes[slot]?) ∧
  (∀ m, (kind = .stat ∧ k = 0 ∧ m < 3) ∨ (kind = .stat ∧ k = 1 ∧ m = 3) ∨ c.statCodes[m]? = d.statCodes[m]?) ∧
  ((kind = .stat ∧ k = 1) ∨
    (c.statFlags = d.statFlags ∧ c.statThsd = d.statThsd ∧ c.statMuxFail = d.statMuxFail))

/-- The READ_*_ONE request of a kind. -/
def Sys2Proof.readOneOf (kind : Kind) (k : BitVec 3) : Instr :=
  match kind with
  | .cell => .readCellOne k
  | .aux => .readAuxOne k
  | .stat => .readStatOne k

/-- The READ_*_ALL request of a kind. -/
def Sys2Proof.readAllOf : Kind → Instr
  | .cell => .readCellAll
  | .aux => .readAuxAll
  | .stat => .readStatAll

/-! ### Encoding -/

/-- Decode and encode agree on every request, with every operand at every value its field admits (30_encoding R114,
R115). -/
def Obligations.DecodeInvertsEncode : Prop :=
  ∀ i : Instr, decode (encode i) = .ok i

/-- Each accepted word has one meaning: the encoder gives back the word that was decoded. -/
def Obligations.EncodeInvertsDecode : Prop :=
  ∀ (w : RequestWord) (i : Instr), decode w = .ok i → encode i = w

/-- A word is a request exactly when its OP has a row of the opcode table and the masked word equals the row's match;
with a row and no match it is rejected for reserved bits, without a row for its OP (30_encoding R102, R103 (a), R114). -/
def Obligations.WordAcceptedIffItMatchesItsTableRow : Prop :=
  ∀ w : RequestWord,
    (opcodeRows.lookup (opOf w).toNat = none → decode w = .error (.illegalOp (opOf w))) ∧
    ∀ mask, opcodeRows.lookup (opOf w).toNat = some mask →
      (wordMatches w mask → ∃ i, decode w = .ok i) ∧ (¬ wordMatches w mask → decode w = .error .reservedBits)

/-- Words written out from the encoding, one per family, decode to their requests (the examples of 30_encoding R118 and
the words of 95_test_vectors). -/
def Obligations.ExampleWordsDecode : Prop :=
  decode 0x01000000 = .ok .pecCalc ∧ decode 0x10000711 = .ok (.sendCmd 0x711) ∧
  decode 0x11000001 = .ok (.writeCfg .b) ∧ decode 0x21000000 = .ok .wakeSleep ∧
  decode 0x32000104 = .ok (.setGpioA 0 4 true) ∧ decode 0x33007530 = .ok (.setUvA 0 30000) ∧
  decode 0x3D01010B = .ok (.setDccB 1 11 true) ∧ decode 0x37000689 = .ok (.getCfgA 0 9 .rx 6) ∧
  decode 0x400005A5 = .ok (.setComm 0 5 0xA5) ∧ decode 0x41001700 = .ok (.getComm 0 7 .rx) ∧
  decode 0x51000001 = .ok (.readCellOne 1) ∧ decode 0x5C010003 = .ok (.getCounter 1 3) ∧
  decode 0x60000066 = .ok (.startAdcv 2 true 6) ∧ decode 0x63000000 = .ok .poll

/-- Lines of the assembler syntax and pseudo-requests give their words (30_encoding R118, R119). -/
def Obligations.ExampleLinesAssemble : Prop :=
  assembleLine "PEC_CALC [0x00, 0x01]" = some [⟨0x01000000, [0x00, 0x01]⟩] ∧
  assembleLine "SET_GPIO.A 0, 4, 1" = some [⟨0x32000104, []⟩] ∧
  assembleLine "GET_CFG.A 0, OV_THRESHOLD, 0, tx" = some [⟨0x37000006, []⟩] ∧
  assembleLine "READ_CELL_ONE B" = some [⟨0x51000001, []⟩] ∧
  assembleLine "SET_THRESHOLDS.A 0, 30000, 41000" = some [⟨0x33007530, []⟩, ⟨0x3400A028, []⟩] ∧
  assembleLine "CONFIGURE B" =
    some [⟨0x20000000, []⟩, ⟨0x11000001, []⟩, ⟨0x20000000, []⟩, ⟨0x12000001, []⟩]

/-! ### One step -/

/-- A step runs the decoded request: with a well-formed configuration and a pending request whose word decodes to i, step
is exec of i in the state with the gap passed and the request presented; with no pending request it changes nothing. How
requests are queued and gaps scripted is the model's choice (log 5, 9). -/
def Obligations.StepRunsTheDecodedRequest : Prop :=
  ∀ s : State, configWellFormed s.cfg = true →
    (s.requests = [] → step s = .next s) ∧
    ∀ rq rest i, s.requests = rq :: rest → decode rq.word = .ok i → step s = exec i (presented s rq.payload)

/-- An unassigned OP, by the list of 30_encoding R116 (a), gives ILLEGAL_REQUEST with val = OP and no other effect,
whatever CHIP, ARG and the payload are (60_exceptions R342). -/
def Obligations.UnassignedOpGivesIllegalRequest : Prop :=
  ∀ (s : State) (rq : Request) (rest : List Request) (op : Nat), configWellFormed s.cfg = true →
    s.requests = rq :: rest → op = (opOf rq.word).toNat →
    (op = 0 ∨ (0x02 ≤ op ∧ op ≤ 0x0F) ∨ (0x15 ≤ op ∧ op ≤ 0x1F) ∨ (0x22 ≤ op ∧ op ≤ 0x2F) ∨
      (0x42 ≤ op ∧ op ≤ 0x4F) ∨ op = 0x56 ∨ op = 0x57 ∨ op = 0x5D ∨ op = 0x5E ∨ 0x64 ≤ op) →
    step s = .next (withResult (presented s rq.payload) .illegalRequest op [])

/-- An assigned request that fails a check returns INVALID_PARAM with the reason code of the first failing check, 1
(reserved bits), 2 (CHIP), 3 (a field) or 4 (the payload), and has no other effect (60_exceptions R343, 30_encoding
R103). -/
def Obligations.InvalidParamNamesTheFirstFailingCheck : Prop :=
  ∀ (s : State) (rq : Request) (rest : List Request) (mask : Nat), configWellFormed s.cfg = true →
    s.requests = rq :: rest → opcodeRows.lookup (opOf rq.word).toNat = some mask →
    (¬ wordMatches rq.word mask → step s = .next (withResult (presented s rq.payload) .invalidParam 1 [])) ∧
    (wordMatches rq.word mask → ∃ i, decode rq.word = .ok i ∧
      ∀ v, rejection s.cfg rq.payload i = some v →
        step s = .next (withResult (presented s rq.payload) .invalidParam v []))

/-- A request that passes every check never ends in INVALID_PARAM (30_encoding R103). -/
def Obligations.AcceptedRequestIsNotInvalidParam : Prop :=
  ∀ (i : Instr) (s : State), rejection s.cfg s.payload i = none →
    ∃ t r, exec i s = .next t ∧ t.results = s.results ++ [r] ∧ r.st ≠ .invalidParam ∧ r.st ≠ .illegalRequest

/-- A configuration is well-formed exactly when the conditions of 00_scope R9 hold, and the step refuses, and so runs no
request, exactly when they do not. The codes' being 11-bit values, (c) and (d), is their type. That the refusal stands at
the step is the model's choice (log 15). -/
def Obligations.IllFormedConfigRunsNothing : Prop :=
  ∀ s : State,
    (configWellFormed s.cfg = true ↔
      (1 ≤ s.cfg.n ∧ s.cfg.n ≤ 256) ∧ s.cfg.rev.length = s.cfg.n ∧
      (∀ i, i < s.cfg.n → s.cfg.rev[i]? = s.cfg.rev[s.cfg.n - 1 - i]?) ∧
      (1 ≤ s.cfg.cellSubregs ∧ s.cfg.cellSubregs ≤ 6) ∧ (1 ≤ s.cfg.auxSubregs ∧ s.cfg.auxSubregs ≤ 4) ∧
      (1 ≤ s.cfg.statSubregs ∧ s.cfg.statSubregs ≤ 2) ∧ 1 ≤ s.cfg.fSck ∧
      (1 ≤ s.cfg.pollMax ∧ s.cfg.pollMax ≤ 2 ^ 32 - 1) ∧ 1 ≤ s.cfg.cntW) ∧
    (step s = .refused .illFormedConfig ↔ configWellFormed s.cfg = false)

/-! ### Whole-machine rules -/

/-- No status is fatal: with a well-formed configuration every step answers a next state with the same configuration, so
the next step runs too; a pending request is used up and leaves exactly one more result (60_exceptions R349, 10_state
R31). -/
def Obligations.EveryStepContinues : Prop :=
  ∀ s : State, configWellFormed s.cfg = true →
    ∃ t, step s = .next t ∧ t.cfg = s.cfg ∧ t.requests = s.requests.tail ∧
      (s.requests ≠ [] → ∃ r, t.results = s.results ++ [r])

/-- Every request ends with exactly one result, of a status that the table of 60_exceptions R347 gives it. -/
def Obligations.RequestEndsWithAListedStatus : Prop :=
  ∀ (i : Instr) (s t : State), exec i s = .next t →
    ∃ r, t.results = s.results ++ [r] ∧ r.st ∈ statusesOf i

/-- The bus events of a request: they are appended to the trace, at most as many as 70_reset_and_hazards R391 says; none
for a rejected request or word; for POLL 1 + k with CONV_DONE value k, and 1 + POLL_MAX on a timeout. -/
def Obligations.RequestEmitsBoundedEvents : Prop :=
  (∀ (i : Instr) (s t : State), exec i s = .next t →
    ∃ es r, t.trace = s.trace ++ es ∧ t.results = s.results ++ [r] ∧ es.length ≤ eventBound s.cfg i ∧
      (r.st = .invalidParam → es = []) ∧
      (r.st = .convDone → es.length = 1 + r.val) ∧ (r.st = .convTimeout → es.length = 1 + s.cfg.pollMax)) ∧
  ∀ (e : DecodeError) (s : State), (rejectWord e s).trace = s.trace

/-- No request but a wake changes the link (42_link_sequencer R202). -/
def Obligations.OnlyWakesChangeTheLink : Prop :=
  ∀ (i : Instr) (s t : State), exec i s = .next t → isWake i = false → t.link = s.link

/-- Every marked event of a request is RELIABLE exactly when the link was ACTIVE at its start (42_link_sequencer R203). -/
def Obligations.EventMarksFollowTheLink : Prop :=
  ∀ (i : Instr) (s t : State), exec i s = .next t →
    ∃ es, t.trace = s.trace ++ es ∧
      ∀ e, e ∈ es → ∀ m, markOf e = some m → (m = .reliable ↔ s.link = .active)

/-- The block never reads the link: from two states that differ in it alone, a request ends in states that differ in the
link and in the marks of the trace alone. The traces are equal once the marks are erased, so the same bytes are sent, the
same counts asked for, the same bytes received and the same pauses made; and the register model, the results and the use
of the oracle are the same (10_state R30, R50). -/
def Obligations.LinkIsNeverRead : Prop :=
  ∀ (i : Instr) (s t : State) (l : Link), exec i s = .next t →
    ∃ u, exec i { s with link := l } = .next u ∧
      u = { t with link := u.link, trace := u.trace } ∧ u.trace.map eraseMark = t.trace.map eraseMark

/-- Each field of the register model changes only by a request that the access table lists as its writer (10_state
R52). -/
def Obligations.FieldsHaveOnlyTheirListedWriters : Prop :=
  ∀ (i : Instr) (s t : State), exec i s = .next t →
    t.chips.length = s.chips.length ∧
    ∀ f, writes f i = false → ∀ j, agreeOn f (chipOf t j) (chipOf s j)

/-- No request changes the configuration (00_scope R8, 10_state R30), and at its end the sequencer is in the phase it was
in, SEQ_READY at every boundary (42_link_sequencer, section 2). The clauses on the model's own fields are the model's
choice and no rule of the spec: seq holds the phase (log 18), payload the presented payload (log 7), requests what is
still to be presented (log 5), gaps and gapDraws the environment's decays (log 9), answers and draws the receives
(log 8), of which a request uses as many as it counts. -/
def Obligations.ConfigurationIsConstant : Prop :=
  ∀ (i : Instr) (s t : State), exec i s = .next t →
    t.cfg = s.cfg ∧ t.seq = s.seq ∧ t.payload = s.payload ∧ t.requests = s.requests ∧ t.gaps = s.gaps ∧
    t.gapDraws = s.gapDraws ∧ ∃ k, t.answers = s.answers.drop k ∧ t.draws = s.draws + k

/-- Every step keeps the invariant of a request boundary, from every state that has it. -/
def Obligations.StepKeepsTheBoundaryInvariant : Prop :=
  ∀ s t : State, boundaryInv s = true → step s = .next t → boundaryInv t = true

/-- The invariant of a request boundary holds right after reset, with every configuration; State.reset is such a reset,
with a well-formed configuration, which is the model's choice (log 2). -/
def Obligations.BoundaryInvariantAfterReset : Prop :=
  (∀ c : Cfg, boundaryInv (State.resetWith c) = true) ∧
  State.reset = State.resetWith defaultCfg ∧ configWellFormed defaultCfg = true

/-- Over every run of steps in which no request is RESET_COUNTERS, no counter of any chip decreases; and every request
but READ_CFG, READ_CELL_*, READ_AUX_*, READ_STAT_* and RESET_COUNTERS leaves every counter unchanged
(44_measurement_parser R283). -/
def Obligations.CountersNeverDecreaseBetweenResets : Prop :=
  (∀ (k : Nat) (s t : State), Host.Core.run Sys2Proof.core k s = .next t →
    (∀ rq, rq ∈ s.requests.take k → decode rq.word ≠ .ok .resetCounters) →
    ∀ chip c, counterAt s chip c ≤ counterAt t chip c) ∧
  ∀ (i : Instr) (s t : State), exec i s = .next t →
    (∀ r, i ≠ .readCfg r) → i ≠ .readCellAll → (∀ k, i ≠ .readCellOne k) → i ≠ .readAuxAll →
    (∀ k, i ≠ .readAuxOne k) → i ≠ .readStatAll → (∀ k, i ≠ .readStatOne k) → i ≠ .resetCounters →
    ∀ chip c, counterAt t chip c = counterAt s chip c

/-- Reset with any configuration gives every piece of state of every chip, the link and the observation its reset value
(10_state R55). -/
def Obligations.ResetValues : Prop :=
  ∀ c : Cfg,
    (State.resetWith c).cfg = c ∧ (State.resetWith c).chips.length = c.n ∧
    (State.resetWith c).link = .sleep ∧ (State.resetWith c).trace = [] ∧ (State.resetWith c).results = [] ∧
    ∀ ch, ch ∈ (State.resetWith c).chips →
      (∀ r, (cfgGroup r ch).tx.toList = List.replicate 6 0 ∧ (cfgGroup r ch).rx.toList = List.replicate 8 0 ∧
        (cfgGroup r ch).pecErr = false) ∧
      ch.commTx.toList = List.replicate 6 0 ∧ ch.commRx.toList = List.replicate 8 0 ∧
      ch.cellPec.toList = List.replicate 6 false ∧ ch.auxPec.toList = List.replicate 4 false ∧
      ch.statPec.toList = List.replicate 2 false ∧ ch.cellCodes.toList = List.replicate 18 0 ∧
      ch.auxCodes.toList = List.replicate 12 0 ∧ ch.statCodes.toList = List.replicate 4 0 ∧
      ch.statFlags.toList = List.replicate 3 0 ∧ ch.statMuxFail = false ∧ ch.statThsd = false ∧
      ch.cnt.toList = List.replicate 14 0

/-! ### The PEC generator -/

/-- The flip-flop form computes the same remainder as the serial form, for every byte list (40_pec15 R142). -/
def Obligations.FlipFlopFormComputesTheSameRemainder : Prop :=
  ∀ (bytes : List Byte) (j : Nat), j < 15 → (pecFlopsRun bytes)[j]? = some ((pec15 bytes).getLsbD j)

/-- Bit 0 of every PEC16 is 0, so a received PEC whose bit 0 is 1 always mismatches; and blocks of eight 0x00 or eight
0xFF bytes always mismatch (40_pec15 R143, R144; 41_frame_builder, READ_CFG's corner cases). -/
def Obligations.OddOrStuckPecMismatches : Prop :=
  (∀ bytes, (pec16 bytes).getLsbD 0 = false) ∧
  (∀ data h l, l.getLsbD 0 = true → pecOk data h l = false) ∧
  blockGood (List.replicate 8 0x00) = false ∧ blockGood (List.replicate 8 0xFF) = false

/-- Any change confined to one byte of a 6-byte group changes its PEC16, so the group's check then fails against the PEC
of the unchanged data; and a change of one received PEC byte always mismatches (40_pec15, section 3). -/
def Obligations.SingleByteErrorIsDetected : Prop :=
  ∀ (data : List Byte) (b : Nat) (e : Byte), data.length = 6 → b < 6 → e ≠ 0 →
    pec16 (data.set b (byteAt data b ^^^ e)) ≠ pec16 data ∧
    pecOk (data.set b (byteAt data b ^^^ e)) (byteAt (pecBytes data) 0) (byteAt (pecBytes data) 1) = false ∧
    pecOk data (byteAt (pecBytes data) 0 ^^^ e) (byteAt (pecBytes data) 1) = false ∧
    pecOk data (byteAt (pecBytes data) 0) (byteAt (pecBytes data) 1 ^^^ e) = false

/-- PEC_CALC with a payload of at most PEC_MAX_LEN bytes answers its PEC16 and changes nothing but the results; with a
longer one it answers INVALID_PARAM(4) (40_pec15, section 2). -/
def Obligations.PecCalcAnswersThePec : Prop :=
  ∀ s : State,
    (s.payload.length ≤ s.cfg.pecMaxLen →
      exec .pecCalc s = .next (withResult s .ok (pec16 s.payload).toNat [])) ∧
    (s.cfg.pecMaxLen < s.payload.length → exec .pecCalc s = .next (withResult s .invalidParam 4 []))

/-! ### Topology and frames -/

/-- For a well-formed configuration the position map is an involution on 0..N-1 and equals chip_at; with no chip
reversed it is the identity, with every chip reversed the mirror, and the middle chip of an odd chain is where it is
whatever its flag (41_frame_builder R161). -/
def Obligations.PositionMapIsAnInvolution : Prop :=
  ∀ c : Cfg, configWellFormed c = true →
    (∀ i, i < c.n → pos c i < c.n ∧ pos c (pos c i) = i ∧ chipAt c i = pos c i) ∧
    ((∀ i, i < c.n → revOf c i = false) → ∀ p, p < c.n → chipAt c p = p) ∧
    ((∀ i, i < c.n → revOf c i = true) → ∀ p, p < c.n → chipAt c p = c.n - 1 - p) ∧
    (c.n % 2 = 1 → pos c ((c.n - 1) / 2) = (c.n - 1) / 2)

/-- The position map is a bijection of 0..N-1 exactly when every flag equals its mirror's (00_scope, section 4,
condition (b)). -/
def Obligations.PositionsCollideExactlyWhenFlagsDifferFromTheirMirror : Prop :=
  ∀ c : Cfg,
    ((∀ i, i < c.n → pos c i < c.n) ∧ ∀ i j, i < c.n → j < c.n → pos c i = pos c j → i = j) ↔
      ∀ i, i < c.n → revOf c i = revOf c (c.n - 1 - i)

/-- The command frame of a code: two code bytes, high byte first, bits 7:3 of the first 0, then their PEC, high byte
first (30_encoding R108). -/
def Obligations.CommandFrameBytes : Prop :=
  ∀ c : CmdCode,
    commandFrame c =
      [BitVec.ofNat 8 (c.toNat / 256), BitVec.ofNat 8 (c.toNat % 256),
        BitVec.ofNat 8 ((pec16 (commandBytes c)).toNat / 256), BitVec.ofNat 8 ((pec16 (commandBytes c)).toNat % 256)] ∧
    commandBytes c = [BitVec.ofNat 8 (c.toNat / 256), BitVec.ofNat 8 (c.toNat % 256)] ∧
    (byteAt (commandFrame c) 0).toNat < 8

/-- A write frame is 4 + 8N bytes: the command frame, and chip i's 6 payload bytes and 2 PEC bytes at offset
4 + 8 (N - 1 - pos(i)) (41_frame_builder R164). -/
def Obligations.WriteFrameHoldsEachChipAtItsOffset : Prop :=
  ∀ (c : Cfg) (k : CmdCode) (data : Nat → List Byte), configWellFormed c = true → (∀ i, (data i).length = 6) →
    (writeFrame c k data).length = 4 + 8 * c.n ∧
    (writeFrame c k data).take 4 = commandFrame k ∧
    ∀ i, i < c.n →
      ((writeFrame c k data).drop (4 + 8 * (c.n - 1 - pos c i))).take 6 = data i ∧
      ((writeFrame c k data).drop (4 + 8 * (c.n - 1 - pos c i) + 6)).take 2 =
        [((pec16 (data i)).extractLsb' 8 8), ((pec16 (data i)).extractLsb' 0 8)]

/-- SEND_CMD, WRITE_CFG and WRITE_COMM transmit their one frame, answer OK and change nothing else
(41_frame_builder, sections 3 and 4). -/
def Obligations.TransmittingRequestsSendTheirFrame : Prop :=
  ∀ s : State, s.payload = [] →
    (∀ c, exec (.sendCmd c) s = .next (withResult
      { s with trace := s.trace ++ [.tx (commandFrame c) (relOf s.link)] } .ok 0 [])) ∧
    (exec (.writeCfg .a) s = .next (withResult { s with trace := s.trace ++
      [.tx (writeFrame s.cfg s.cfg.cmdCode.wrcfga fun i => (chipOf s i).cfgA.tx.toList) (relOf s.link)] } .ok 0 [])) ∧
    (exec (.writeCfg .b) s = .next (withResult { s with trace := s.trace ++
      [.tx (writeFrame s.cfg s.cfg.cmdCode.wrcfgb fun i => (chipOf s i).cfgB.tx.toList) (relOf s.link)] } .ok 0 [])) ∧
    (exec .writeComm s = .next (withResult { s with trace := s.trace ++
      [.tx (writeFrame s.cfg s.cfg.cmdCode.wrcomm fun i => (chipOf s i).commTx.toList) (relOf s.link)] } .ok 0 []))

/-- READ_CFG with a response of the right length stores, for every chip, the 8 bytes of its block and its mismatch flag,
counts a mismatch under ids 0 and 1, reports the mismatching chips in ascending order, and changes nothing else
(41_frame_builder, section 5). -/
def Obligations.ReadCfgStoresEveryBlock : Prop :=
  ∀ (r : CfgReg) (s : State), s.payload = [] → s.chips.length = s.cfg.n → (responseOf s).length = 8 * s.cfg.n →
    ∃ t, exec (.readCfg r) s = .next t ∧
      exchangeFrame (match r with | .a => s.cfg.cmdCode.rdcfga | .b => s.cfg.cmdCode.rdcfgb)
        (match r with | .a => 0 | .b => 1) s t ∧
      ∀ i, i < s.cfg.n → configWellFormed s.cfg = true →
        (cfgGroup r (chipOf t i)).rx.toList = blockOf s.cfg (responseOf s) i ∧
        (cfgGroup r (chipOf t i)).pecErr = !blockGood (blockOf s.cfg (responseOf s) i) ∧
        countersAfter s t i 1 (blockGood (blockOf s.cfg (responseOf s) i)) ∧
        ∀ f, f ≠ .cfgRx r → f ≠ .cfgPecErr r → f ≠ .cnt → agreeOn f (chipOf t i) (chipOf s i)

/-- READ_COMM with a response of the right length stores, for every chip, the 8 bytes of its block, reports the
mismatching chips under id 14, and changes nothing else: no flag and no counter (41_frame_builder, section 5). -/
def Obligations.ReadCommStoresEveryBlock : Prop :=
  ∀ s : State, s.payload = [] → s.chips.length = s.cfg.n → (responseOf s).length = 8 * s.cfg.n →
    ∃ t, exec .readComm s = .next t ∧ exchangeFrame s.cfg.cmdCode.rdcomm 14 s t ∧
      ∀ i, i < s.cfg.n → configWellFormed s.cfg = true →
        (chipOf t i).commRx.toList = blockOf s.cfg (responseOf s) i ∧
        ∀ f, f ≠ .commRx → agreeOn f (chipOf t i) (chipOf s i)

/-- A single-exchange read whose response has the wrong length stores, decodes and counts nothing: the result is
SHAPE_ERROR with the sub-register index, 0 for configuration and communication, the trace keeps the exchange, and
nothing else changes (60_exceptions, section 1). READ_*_ALL is stated in ReadAllReadsUntilAShapeError. -/
def Obligations.ShapeErrorStoresNothing : Prop :=
  ∀ (i : Instr) (s : State) (c : CmdCode) (k : Nat),
    ((i = .readCfg .a ∧ c = s.cfg.cmdCode.rdcfga ∧ k = 0) ∨ (i = .readCfg .b ∧ c = s.cfg.cmdCode.rdcfgb ∧ k = 0) ∨
      (i = .readComm ∧ c = s.cfg.cmdCode.rdcomm ∧ k = 0) ∨
      ∃ kind b, i = readOneOf kind b ∧ k = b.toNat ∧ c = subregCode s.cfg.cmdCode kind k ∧ k < subregs s.cfg kind) →
    s.payload = [] → (responseOf s).length ≠ 8 * s.cfg.n →
    exec i s = .next { s with
      trace := s.trace ++ [.txrx (commandFrame c) (8 * s.cfg.n) (responseOf s) (relOf s.link)]
      answers := s.answers.tail
      draws := s.draws + 1
      results := s.results ++ [⟨.shapeError, k, []⟩] }

/-- Write, then read back: after WRITE_CFG r, a READ_CFG r whose answer is the written blocks in read order ends OK with
every chip's rx its tx and their PEC, and every flag clear. The answer is merely a given value, scripted (log 8): nothing
is said of what a chain would answer, on whatever link. -/
def Obligations.WrittenConfigurationReadsBack : Prop :=
  ∀ (r : CfgReg) (s : State), configWellFormed s.cfg = true → s.payload = [] → s.chips.length = s.cfg.n →
    ∃ t frame u, exec (.writeCfg r) s = .next t ∧ t.trace = s.trace ++ [.tx frame (relOf s.link)] ∧
      exec (.readCfg r) { t with answers := readOrder s.cfg.n frame :: t.answers } = .next u ∧
      u.results = t.results ++ [⟨.ok, 0, []⟩] ∧
      ∀ i, i < s.cfg.n →
        (cfgGroup r (chipOf u i)).rx.toList =
          (cfgGroup r (chipOf s i)).tx.toList ++ pecBytes (cfgGroup r (chipOf s i)).tx.toList ∧
        (cfgGroup r (chipOf u i)).pecErr = false

/-! ### The link sequencer -/

/-- WAKE_IDLE makes N one-byte fills, each clocking out one byte of FILLER, answers OK, leaves a sleeping link asleep and
makes any other ACTIVE, and changes nothing else (42_link_sequencer, sections 1 and 3; 20_memory R87, 30_encoding R111). -/
def Obligations.WakeIdleFillsOncePerChip : Prop :=
  ∀ s : State, s.payload = [] →
    ∃ es, exec .wakeIdle s = .next { s with
        trace := s.trace ++ es
        answers := s.answers.drop s.cfg.n
        draws := s.draws + s.cfg.n
        link := match s.link with | .active => .active | .idle => .active | .sleep => .sleep
        results := s.results ++ [⟨.ok, 0, []⟩] } ∧
      es = (List.range s.cfg.n).map (fun j => .fill 1 (fillNo 1 s j) (relOf s.link)) ∧
      ∀ e, e ∈ es → bytesOut s.cfg e = [s.cfg.filler]

/-- WAKE_SLEEP makes N bursts of WAKE_SLEEP_BYTES bytes of FILLER, each with its pause, the last included, which clocks
out nothing; answers OK, leaves the link ACTIVE from any state, and changes nothing else (42_link_sequencer, sections 1
and 3; 20_memory R87, R88, 30_encoding R111). -/
def Obligations.WakeSleepBurstsOncePerChip : Prop :=
  ∀ s : State, s.payload = [] →
    ∃ es, exec .wakeSleep s = .next { s with
        trace := s.trace ++ es
        answers := s.answers.drop s.cfg.n
        draws := s.draws + s.cfg.n
        link := .active
        results := s.results ++ [⟨.ok, 0, []⟩] } ∧
      es = (List.range s.cfg.n).flatMap (fun j =>
        [.fill (wakeSleepBytes s.cfg) (fillNo (wakeSleepBytes s.cfg) s j) (relOf s.link), .delay s.cfg.tPauseUs]) ∧
      es.map (bytesOut s.cfg) = (List.range s.cfg.n).flatMap fun _ =>
        [List.replicate (wakeSleepBytes s.cfg) s.cfg.filler, []]

/-- The phase machine refines the wake requests: from SEQ_READY, N phases of WAKE_IDLE or 2N of WAKE_SLEEP are back in
SEQ_READY with exactly the state the request rule gives, before its result (42_link_sequencer, section 2). That the phase
machine is a separate function and the meanings use the request rules is the model's choice (log 18). -/
def Obligations.PhaseMachineRefinesTheWakes : Prop :=
  ∀ s : State, s.payload = [] → s.seq = .ready → 1 ≤ s.cfg.n →
    exec .wakeIdle s = .next (withResult (repeatStep seqTick s.cfg.n (seqStartIdle s)) .ok 0 []) ∧
    exec .wakeSleep s = .next (withResult (repeatStep seqTick (2 * s.cfg.n) (seqStartSleep s)) .ok 0 [])

/-- The burst is the least whole number of bytes whose transfer at F_SCK takes at least 300 microseconds
(42_link_sequencer, section 3), and 500 kHz, 1, 2 and 4 MHz and 8 kHz give 19, 38, 75, 150 and 1. -/
def Obligations.BurstIsTheLeastOf300Microseconds : Prop :=
  (∀ c : Cfg, 300 * c.fSck ≤ 8000000 * wakeSleepBytes c ∧
    ∀ m, 300 * c.fSck ≤ 8000000 * m → wakeSleepBytes c ≤ m) ∧
  ([500000, 1000000, 2000000, 4000000, 8000].map fun f => wakeSleepBytes { defaultCfg with fSck := f }) =
    [19, 38, 75, 150, 1]

/-- The environment's step between requests can take the link to every state at or below the one it is in, and to no
higher one; under ShortGap it leaves the link (42_link_sequencer, section 1). -/
def Obligations.GapLowersTheLinkByAnyAmount : Prop :=
  (∀ l l', (∃ steps, lowerLink l steps = l') ↔
    (l = .active ∨ (l = .idle ∧ l' ≠ .active) ∨ (l = .sleep ∧ l' = .sleep))) ∧
  (∀ l, lowerLink l 0 = l) ∧ ∀ s : State, shortGap s → (afterGap s).link = s.link

/-! ### The register codec -/

/-- SET_REFON.A and .B write bit 2 and SET_ADCOPT.A and .B write bit 0 (10_state R47), and nothing else. -/
def Obligations.SetRefonAndSetAdcoptWriteTheirBits : Prop :=
  ∀ (s : State) (chip : ChipField) (v : Bool), s.payload = [] → chip.toNat < s.cfg.n → s.chips.length = s.cfg.n →
    (∃ t, exec (.setRefonA chip v) s = .next t ∧ setterEffect .a chip.toNat 2 1 v.toNat 0 s t) ∧
    (∃ t, exec (.setRefonB chip v) s = .next t ∧ setterEffect .b chip.toNat 2 1 v.toNat 0 s t) ∧
    (∃ t, exec (.setAdcoptA chip v) s = .next t ∧ setterEffect .a chip.toNat 0 1 v.toNat 0 s t) ∧
    ∃ t, exec (.setAdcoptB chip v) s = .next t ∧ setterEffect .b chip.toNat 0 1 v.toNat 0 s t

/-- SET_GPIO.A and .B with g in 0..4 write bit 3 + g and nothing else. -/
def Obligations.SetGpioWritesItsBit : Prop :=
  ∀ (s : State) (chip : ChipField) (g : BitVec 3) (v : Bool), s.payload = [] → chip.toNat < s.cfg.n →
    s.chips.length = s.cfg.n → g.toNat ≤ 4 →
    (∃ t, exec (.setGpioA chip g v) s = .next t ∧ setterEffect .a chip.toNat (3 + g.toNat) 1 v.toNat 0 s t) ∧
    ∃ t, exec (.setGpioB chip g v) s = .next t ∧ setterEffect .b chip.toNat (3 + g.toNat) 1 v.toNat 0 s t

/-- SET_UV.A and .B with T of at least 16 write T // 16 - 1 in bits 8..19, answer it, and change nothing else. -/
def Obligations.SetUvWritesItsCode : Prop :=
  ∀ (s : State) (chip : ChipField) (T : U16), s.payload = [] → chip.toNat < s.cfg.n → s.chips.length = s.cfg.n →
    16 ≤ T.toNat →
    (∃ t, exec (.setUvA chip T) s = .next t ∧
      setterEffect .a chip.toNat 8 12 (T.toNat / 16 - 1) (T.toNat / 16 - 1) s t) ∧
    ∃ t, exec (.setUvB chip T) s = .next t ∧
      setterEffect .b chip.toNat 8 12 (T.toNat / 16 - 1) (T.toNat / 16 - 1) s t

/-- SET_OV.A and .B write T // 16 in bits 20..31, answer it, and change nothing else. -/
def Obligations.SetOvWritesItsCode : Prop :=
  ∀ (s : State) (chip : ChipField) (T : U16), s.payload = [] → chip.toNat < s.cfg.n → s.chips.length = s.cfg.n →
    (∃ t, exec (.setOvA chip T) s = .next t ∧ setterEffect .a chip.toNat 20 12 (T.toNat / 16) (T.toNat / 16) s t) ∧
    ∃ t, exec (.setOvB chip T) s = .next t ∧ setterEffect .b chip.toNat 20 12 (T.toNat / 16) (T.toNat / 16) s t

/-- SET_DCC.A and .B with c in 0..11 write bit 32 + c and nothing else. -/
def Obligations.SetDccWritesItsBit : Prop :=
  ∀ (s : State) (chip : ChipField) (c : BitVec 4) (v : Bool), s.payload = [] → chip.toNat < s.cfg.n →
    s.chips.length = s.cfg.n → c.toNat ≤ 11 →
    (∃ t, exec (.setDccA chip c v) s = .next t ∧ setterEffect .a chip.toNat (32 + c.toNat) 1 v.toNat 0 s t) ∧
    ∃ t, exec (.setDccB chip c v) s = .next t ∧ setterEffect .b chip.toNat (32 + c.toNat) 1 v.toNat 0 s t

/-- SET_DCTO.A and .B write t in bits 44..47 and nothing else. -/
def Obligations.SetDctoWritesItsNibble : Prop :=
  ∀ (s : State) (chip : ChipField) (n : BitVec 4), s.payload = [] → chip.toNat < s.cfg.n → s.chips.length = s.cfg.n →
    (∃ t, exec (.setDctoA chip n) s = .next t ∧ setterEffect .a chip.toNat 44 4 n.toNat 0 s t) ∧
    ∃ t, exec (.setDctoB chip n) s = .next t ∧ setterEffect .b chip.toNat 44 4 n.toNat 0 s t

/-- Where a configuration field stands among the 48 bits: its lowest bit and its width (10_state R47, 30_encoding
R107). -/
def Sys2Proof.fieldPlace (f x : Nat) : Nat × Nat :=
  match f with
  | 0 => (0, 1)
  | 1 => (2, 1)
  | 2 => (3 + x, 1)
  | 3 => (8, 12)
  | 4 => (20, 12)
  | 5 => (8, 12)
  | 6 => (20, 12)
  | 7 => (32 + x, 1)
  | 8 => (44, 4)
  | _ => (8 * x, 8)

/-- The number GET_CFG answers for a field that holds `raw` (30_encoding R107). -/
def Sys2Proof.fieldAnswer (f raw : Nat) : Nat :=
  if f = 5 then (raw + 1) * 16 else if f = 6 then raw * 16 else raw

/-- GET_CFG.A and .B with operands in range answer the field's bits as one number, the thresholds scaled, from the copy
named, and change nothing but the results (43_register_codec, section 3). -/
def Obligations.GetCfgAnswersTheField : Prop :=
  ∀ (s : State) (chip : ChipField) (f : BitVec 4) (src : Copy) (x : BitVec 4), s.payload = [] →
    wellFormed s.cfg (.getCfgA chip f src x) = true →
    ∀ r, ∃ raw,
      exec (match r with | .a => .getCfgA chip f src x | .b => .getCfgB chip f src x) s =
        .next (withResult s .ok (fieldAnswer f.toNat raw) []) ∧
      raw < 2 ^ (fieldPlace f.toNat x.toNat).2 ∧
      ∀ b, b < (fieldPlace f.toNat x.toNat).2 →
        raw.testBit b = cfgBit (match src with
          | .tx => (cfgGroup r (chipOf s chip.toNat)).tx.toList
          | .rx => (cfgGroup r (chipOf s chip.toNat)).rx.toList) ((fieldPlace f.toNat x.toNat).1 + b)

/-- SET_COMM with x in 0..5 stores b in byte x of that chip's comm_tx and changes nothing else but the results; GET_COMM
with x in range answers byte x of the copy named and changes nothing but the results (43_register_codec, section 5). -/
def Obligations.CommBytesAreStoredAndAnswered : Prop :=
  ∀ (s : State) (chip : ChipField) (x : BitVec 3) (b : Byte), s.payload = [] → chip.toNat < s.cfg.n →
    s.chips.length = s.cfg.n →
    (x.toNat ≤ 5 → ∃ t, exec (.setComm chip x b) s = .next t ∧
      t = { withResult s .ok 0 [] with chips := t.chips } ∧ t.chips.length = s.chips.length ∧
      (∀ j, j ≠ chip.toNat → t.chips[j]? = s.chips[j]?) ∧
      (∀ f, f ≠ .commTx → agreeOn f (chipOf t chip.toNat) (chipOf s chip.toNat)) ∧
      ∀ y, y < 6 → (chipOf t chip.toNat).commTx[y]? =
        if y = x.toNat then some b else (chipOf s chip.toNat).commTx[y]?) ∧
    (x.toNat ≤ 5 → ∃ v, (chipOf s chip.toNat).commTx[x.toNat]? = some v ∧
      exec (.getComm chip x .tx) s = .next (withResult s .ok v.toNat [])) ∧
    ∃ v, (chipOf s chip.toNat).commRx[x.toNat]? = some v ∧
      exec (.getComm chip x .rx) s = .next (withResult s .ok v.toNat [])

/-- Threshold round trips: after SET_UV of T from 16 the threshold GET_CFG reads back from the transmit copy is
(T // 16) * 16, so it is T exactly when 16 divides T; after SET_OV of T likewise; and encoding a decoded code writes the
code back (43_register_codec R230). -/
def Obligations.ThresholdsRoundTrip : Prop :=
  (∀ (s t : State) (chip : ChipField) (T : U16), s.payload = [] → chip.toNat < s.cfg.n → s.chips.length = s.cfg.n →
    (16 ≤ T.toNat → exec (.setUvA chip T) s = .next t →
      exec (.getCfgA chip 5 .tx 0) t = .next (withResult t .ok (T.toNat / 16 * 16) [])) ∧
    (16 ≤ T.toNat → exec (.setUvB chip T) s = .next t →
      exec (.getCfgB chip 5 .tx 0) t = .next (withResult t .ok (T.toNat / 16 * 16) [])) ∧
    (exec (.setOvA chip T) s = .next t →
      exec (.getCfgA chip 6 .tx 0) t = .next (withResult t .ok (T.toNat / 16 * 16) [])) ∧
    (exec (.setOvB chip T) s = .next t →
      exec (.getCfgB chip 6 .tx 0) t = .next (withResult t .ok (T.toNat / 16 * 16) []))) ∧
  (∀ T : Nat, T / 16 * 16 = T ↔ T % 16 = 0) ∧
  (∀ raw, raw ≤ 4094 → (uvRaw (BitVec.ofNat 16 ((raw + 1) * 16))).toNat = raw) ∧
  ∀ raw, raw ≤ 4095 → (ovRaw (BitVec.ofNat 16 (raw * 16))).toNat = raw

/-! ### The measurement parser and the counters -/

/-- READ_CELL_ONE of a sub-register of the shape, with a response of the right length, stores for every chip the three
codes of its block in slots 3k..3k+2, match or not, writes flag k, counts a mismatch under ids 0 and 2 + k, reports the
mismatching chips, and changes nothing else; the exchange sends the frame of RDCVA, RDCVB, ... RDCVF for k = 0, 1, ... 5
(44_measurement_parser, sections 1 to 3; 30_encoding R106, R112). -/
def Obligations.ReadCellOneStoresItsSubregister : Prop :=
  ∀ (k : BitVec 3) (s : State), s.payload = [] → s.chips.length = s.cfg.n → configWellFormed s.cfg = true →
    k.toNat < s.cfg.cellSubregs → (responseOf s).length = 8 * s.cfg.n →
    ∃ t, exec (.readCellOne k) s = .next t ∧
      exchangeFrame (subregCode s.cfg.cmdCode .cell k.toNat) (2 + k.toNat) s t ∧
      ∀ i, i < s.cfg.n →
        (∀ slot, slot < 18 → (chipOf t i).cellCodes[slot]? =
          if 3 * k.toNat ≤ slot ∧ slot < 3 * k.toNat + 3 then
            some (codeOf (byteAt (blockOf s.cfg (responseOf s) i) (2 * (slot - 3 * k.toNat)))
              (byteAt (blockOf s.cfg (responseOf s) i) (2 * (slot - 3 * k.toNat) + 1)))
          else (chipOf s i).cellCodes[slot]?) ∧
        (∀ q, q < 6 → (chipOf t i).cellPec[q]? =
          if q = k.toNat then some (!blockGood (blockOf s.cfg (responseOf s) i)) else (chipOf s i).cellPec[q]?) ∧
        countersAfter s t i (2 + k.toNat) (blockGood (blockOf s.cfg (responseOf s) i)) ∧
        ∀ f, f ≠ .cell → f ≠ .cnt → agreeOn f (chipOf t i) (chipOf s i)

/-- READ_AUX_ONE, as READ_CELL_ONE with slots 3k..3k+2 of the auxiliary codes, flag k, counter id 8 + k and the codes
RDAUXA to RDAUXD. -/
def Obligations.ReadAuxOneStoresItsSubregister : Prop :=
  ∀ (k : BitVec 3) (s : State), s.payload = [] → s.chips.length = s.cfg.n → configWellFormed s.cfg = true →
    k.toNat < s.cfg.auxSubregs → (responseOf s).length = 8 * s.cfg.n →
    ∃ t, exec (.readAuxOne k) s = .next t ∧
      exchangeFrame (subregCode s.cfg.cmdCode .aux k.toNat) (8 + k.toNat) s t ∧
      ∀ i, i < s.cfg.n →
        (∀ slot, slot < 12 → (chipOf t i).auxCodes[slot]? =
          if 3 * k.toNat ≤ slot ∧ slot < 3 * k.toNat + 3 then
            some (codeOf (byteAt (blockOf s.cfg (responseOf s) i) (2 * (slot - 3 * k.toNat)))
              (byteAt (blockOf s.cfg (responseOf s) i) (2 * (slot - 3 * k.toNat) + 1)))
          else (chipOf s i).auxCodes[slot]?) ∧
        (∀ q, q < 4 → (chipOf t i).auxPec[q]? =
          if q = k.toNat then some (!blockGood (blockOf s.cfg (responseOf s) i)) else (chipOf s i).auxPec[q]?) ∧
        countersAfter s t i (8 + k.toNat) (blockGood (blockOf s.cfg (responseOf s) i)) ∧
        ∀ f, f ≠ .aux → f ≠ .cnt → agreeOn f (chipOf t i) (chipOf s i)

/-- READ_STAT_ONE: sub-register A gives codes 0..2; sub-register B gives code 3, the three flag bytes, THSD and MUXFAIL,
and neither touches what belongs to the other; flag k, counter id 12 + k and the codes RDSTATA and RDSTATB
(44_measurement_parser, sections 1 to 3). -/
def Obligations.ReadStatOneStoresItsSubregister : Prop :=
  ∀ (k : BitVec 3) (s : State), s.payload = [] → s.chips.length = s.cfg.n → configWellFormed s.cfg = true →
    k.toNat < s.cfg.statSubregs → (responseOf s).length = 8 * s.cfg.n →
    ∃ t, exec (.readStatOne k) s = .next t ∧
      exchangeFrame (subregCode s.cfg.cmdCode .stat k.toNat) (12 + k.toNat) s t ∧
      ∀ i, i < s.cfg.n →
        holdsDecoded .stat k.toNat (blockOf s.cfg (responseOf s) i) (chipOf t i) ∧
        (k.toNat = 0 → (chipOf t i).statCodes[3]? = (chipOf s i).statCodes[3]? ∧
          (chipOf t i).statFlags = (chipOf s i).statFlags ∧ (chipOf t i).statThsd = (chipOf s i).statThsd ∧
          (chipOf t i).statMuxFail = (chipOf s i).statMuxFail) ∧
        (k.toNat = 1 → ∀ m, m < 3 → (chipOf t i).statCodes[m]? = (chipOf s i).statCodes[m]?) ∧
        (∀ q, q < 2 → (chipOf t i).statPec[q]? =
          if q = k.toNat then some (!blockGood (blockOf s.cfg (responseOf s) i)) else (chipOf s i).statPec[q]?) ∧
        countersAfter s t i (12 + k.toNat) (blockGood (blockOf s.cfg (responseOf s) i)) ∧
        ∀ f, f ≠ .stat → f ≠ .cnt → agreeOn f (chipOf t i) (chipOf s i)

/-- READ_CELL_ALL, READ_AUX_ALL and READ_STAT_ALL read sub-registers 0, 1, ... in order, each by its own exchange, each
stored before the next. If the first m responses have the right length and m is the number of sub-registers, the result
is OK or PEC_MISMATCH with every mismatch; if response m is the first of the wrong length, the request stops with
SHAPE_ERROR(m), groups 0..m-1 stored and counted, nothing of group m stored, the later ones not read
(44_measurement_parser R271). -/
def Obligations.ReadAllReadsUntilAShapeError : Prop :=
  ∀ (kind : Kind) (s : State) (m : Nat), s.payload = [] → m ≤ subregs s.cfg kind →
    (∀ k, k < m → (responseNo s k).length = 8 * s.cfg.n) →
    (m < subregs s.cfg kind → (responseNo s m).length ≠ 8 * s.cfg.n) →
    exec (readAllOf kind) s = .next { s with
      chips := s.chips.mapIdx fun i c => (List.range m).foldl
        (fun c k => storeMeasurement s.cfg.cntW kind k (groupAt s.cfg (responseNo s k) i) c) c
      trace := s.trace ++ (List.range (min (m + 1) (subregs s.cfg kind))).map fun k =>
        .txrx (commandFrame (subregCode s.cfg.cmdCode kind k)) (8 * s.cfg.n) (responseNo s k) (relOf s.link)
      answers := s.answers.drop (min (m + 1) (subregs s.cfg kind))
      draws := s.draws + min (m + 1) (subregs s.cfg kind)
      results := s.results ++
        [if m < subregs s.cfg kind then
          ⟨.shapeError, m, (List.range m).flatMap fun k => mismatches s.cfg (responseNo s k) (regId kind k)⟩
        else readResult ((List.range m).flatMap fun k => mismatches s.cfg (responseNo s k) (regId kind k))] }

/-- GET_CELL, GET_AUX, GET_STAT, GET_PEC_FLAG and GET_COUNTER with operands in range answer their field of that chip and
change nothing but the results (44_measurement_parser, section 4). -/
def Obligations.GettersAnswerTheirField : Prop :=
  ∀ (s : State) (chip : ChipField), s.payload = [] → chip.toNat < s.cfg.n →
    (∀ slot : BitVec 5, slot.toNat ≤ 17 → ∃ v, (chipOf s chip.toNat).cellCodes[slot.toNat]? = some v ∧
      exec (.getCell chip slot) s = .next (withResult s .ok v.toNat [])) ∧
    (∀ slot : BitVec 4, slot.toNat ≤ 11 → ∃ v, (chipOf s chip.toNat).auxCodes[slot.toNat]? = some v ∧
      exec (.getAux chip slot) s = .next (withResult s .ok v.toNat [])) ∧
    (∀ f : BitVec 4, f.toNat ≤ 3 → ∃ v, (chipOf s chip.toNat).statCodes[f.toNat]? = some v ∧
      exec (.getStat chip f) s = .next (withResult s .ok v.toNat [])) ∧
    (∀ f : BitVec 4, 4 ≤ f.toNat → f.toNat ≤ 6 → ∃ v, (chipOf s chip.toNat).statFlags[f.toNat - 4]? = some v ∧
      exec (.getStat chip f) s = .next (withResult s .ok v.toNat [])) ∧
    exec (.getStat chip 7) s = .next (withResult s .ok (chipOf s chip.toNat).statMuxFail.toNat []) ∧
    exec (.getStat chip 8) s = .next (withResult s .ok (chipOf s chip.toNat).statThsd.toNat []) ∧
    exec (.getPecFlag chip 0) s = .next (withResult s .ok (chipOf s chip.toNat).cfgA.pecErr.toNat []) ∧
    exec (.getPecFlag chip 1) s = .next (withResult s .ok (chipOf s chip.toNat).cfgB.pecErr.toNat []) ∧
    (∀ id : BitVec 4, 2 ≤ id.toNat → id.toNat ≤ 13 → ∃ v,
      (if id.toNat ≤ 7 then (chipOf s chip.toNat).cellPec[id.toNat - 2]?
        else if id.toNat ≤ 11 then (chipOf s chip.toNat).auxPec[id.toNat - 8]?
        else (chipOf s chip.toNat).statPec[id.toNat - 12]?) = some v ∧
      exec (.getPecFlag chip id) s = .next (withResult s .ok v.toNat [])) ∧
    ∀ id : BitVec 4, id.toNat ≤ 13 → ∃ v, (chipOf s chip.toNat).cnt[id.toNat]? = some v ∧
      exec (.getCounter chip id) s = .next (withResult s .ok v [])

/-- RESET_COUNTERS zeroes every counter of every chip, answers OK, and changes nothing else: no flag, no code, no
configuration byte, no bus event (44_measurement_parser, section 5). -/
def Obligations.ResetCountersZeroesOnlyCounters : Prop :=
  ∀ s : State, s.payload = [] →
    ∃ t, exec .resetCounters s = .next t ∧ t = { withResult s .ok 0 [] with chips := t.chips } ∧
      t.chips.length = s.chips.length ∧
      (∀ chip c, counterAt t chip c = 0) ∧
      ∀ f, f ≠ .cnt → ∀ chip, agreeOn f (chipOf t chip) (chipOf s chip)

/-- The parser property: a response built from data blocks with correct PECs is decoded into every chip, with no flag and
result OK; with one byte of one chip's six data bytes flipped, that chip's flag of the sub-register is set and reported,
its codes are those received, every other chip comes out as in the uncorrupted read, and no flag or code of another
sub-register of any chip is written (44_measurement_parser R285). -/
def Obligations.CorrectResponsesDecodeAndOneFlippedByteIsFlagged : Prop :=
  ∀ (kind : Kind) (k : BitVec 3) (s : State) (data : Nat → Vector Byte 6) (rest : List (List Byte)),
    s.payload = [] → s.chips.length = s.cfg.n → configWellFormed s.cfg = true → k.toNat < subregs s.cfg kind →
    ∃ t, exec (readOneOf kind k) { s with answers := correctResponse s.cfg.n data :: rest } = .next t ∧
      t.results = s.results ++ [⟨.ok, 0, []⟩] ∧
      (∀ i, i < s.cfg.n → holdsDecoded kind k.toNat (data (pos s.cfg i)).toList (chipOf t i) ∧
        pecFlag (chipOf t i) (regId kind k.toNat) = false) ∧
      ∀ (i b : Nat) (e : Byte), i < s.cfg.n → b < 6 → e ≠ 0 →
        ∃ u, exec (readOneOf kind k) { s with answers :=
            ((correctResponse s.cfg.n data).set (8 * pos s.cfg i + b)
              (byteAt (correctResponse s.cfg.n data) (8 * pos s.cfg i + b) ^^^ e)) :: rest } = .next u ∧
          u.results = s.results ++ [⟨.pecMismatch, 1, [(i, regId kind k.toNat)]⟩] ∧
          pecFlag (chipOf u i) (regId kind k.toNat) = true ∧
          holdsDecoded kind k.toNat ((data (pos s.cfg i)).toList.set b (byteAt (data (pos s.cfg i)).toList b ^^^ e))
            (chipOf u i) ∧
          (∀ j, j ≠ i → chipOf u j = chipOf t j) ∧
          (∀ j id, id ≤ 13 → id ≠ regId kind k.toNat → pecFlag (chipOf u j) id = pecFlag (chipOf s j) id) ∧
          ∀ j, otherCodesSame kind k.toNat (chipOf u j) (chipOf s j)

/-- The accounting property: q steps that each run the same single-exchange read, each with the one chip i mismatching and
the others correct, raise chip i's counter of the register id and its global counter by exactly q, below saturation, and
leave every other counter of every chip unchanged (44_measurement_parser, section 6). The read is READ_CFG or any
READ_*_ONE of the shape; what READ_*_ALL stores and counts is stated in ReadAllReadsUntilAShapeError. The q equal answers
are scripted (log 8). -/
def Obligations.RepeatedMismatchesAreCountedExactly : Prop :=
  ∀ (req : Instr) (id q i : Nat) (s : State) (rest : List Request) (response : List Byte) (more : List (List Byte)),
    ((req = .readCfg .a ∧ id = 0) ∨ (req = .readCfg .b ∧ id = 1) ∨
      ∃ kind k, req = readOneOf kind k ∧ id = regId kind k.toNat ∧ k.toNat < subregs s.cfg kind) →
    s.chips.length = s.cfg.n → configWellFormed s.cfg = true →
    s.requests = List.replicate q ⟨encode req, []⟩ ++ rest → s.answers = List.replicate q response ++ more →
    response.length = 8 * s.cfg.n → i < s.cfg.n → badChips s.cfg response = [i] →
    counterAt s i 0 + q < 2 ^ s.cfg.cntW → counterAt s i (if id ≤ 1 then 1 else id) + q < 2 ^ s.cfg.cntW →
    ∃ t, Host.Core.run Sys2Proof.core q s = .next t ∧
      ∀ j c, j < s.cfg.n → c < 14 → counterAt t j c =
        if j = i ∧ (c = 0 ∨ c = if id ≤ 1 then 1 else id) then counterAt s j c + q else counterAt s j c

/-! ### The conversion controller -/

/-- START_ADCV, START_ADAX and START_ADSTAT with the channel in range transmit the frame of the folded code, answer the
code, and change nothing else; under the default folds the code is that of 45_conversion, section 1. -/
def Obligations.StartsTransmitTheFoldedCode : Prop :=
  ∀ (s : State) (md : BitVec 2) (dcp : Bool) (ch : BitVec 3), s.payload = [] →
    (ch.toNat ≤ 6 → ∃ c, s.cfg.foldAdcv[(md.toNat * 2 + dcp.toNat) * 7 + ch.toNat]? = some c ∧
      exec (.startAdcv md dcp ch) s = .next (withResult
        { s with trace := s.trace ++ [.tx (commandFrame c) (relOf s.link)] } .ok c.toNat []) ∧
      (s.cfg = defaultCfg → c.toNat = 0x260 ||| md.toNat <<< 7 ||| dcp.toNat <<< 4 ||| ch.toNat)) ∧
    (ch.toNat ≤ 6 → ∃ c, s.cfg.foldAdax[md.toNat * 7 + ch.toNat]? = some c ∧
      exec (.startAdax md ch) s = .next (withResult
        { s with trace := s.trace ++ [.tx (commandFrame c) (relOf s.link)] } .ok c.toNat []) ∧
      (s.cfg = defaultCfg → c.toNat = 0x460 ||| md.toNat <<< 7 ||| ch.toNat)) ∧
    (ch.toNat ≤ 4 → ∃ c, s.cfg.foldAdstat[md.toNat * 5 + ch.toNat]? = some c ∧
      exec (.startAdstat md ch) s = .next (withResult
        { s with trace := s.trace ++ [.tx (commandFrame c) (relOf s.link)] } .ok c.toNat []) ∧
      (s.cfg = defaultCfg → c.toNat = 0x468 ||| md.toNat <<< 7 ||| ch.toNat))

/-- POLL ends at the first non-zero byte: if fill k is the first one to return a non-zero byte and k is at most POLL_MAX,
the trace gets the PLADC frame and k one-byte fills, the result is CONV_DONE with k, and nothing else changes
(45_conversion, section 3). -/
def Obligations.PollEndsAtTheFirstNonZeroByte : Prop :=
  ∀ (s : State) (k : Nat), s.payload = [] → 1 ≤ k → k ≤ s.cfg.pollMax →
    (∀ j, j + 1 < k → pollByte s j = 0) → pollByte s (k - 1) ≠ 0 →
    exec .poll s = .next { s with
      trace := s.trace ++ [.tx (commandFrame s.cfg.cmdCode.pladc) (relOf s.link)] ++
        (List.range k).map fun j => .fill 1 (fillNo 1 s j) (relOf s.link)
      answers := s.answers.drop k
      draws := s.draws + k
      results := s.results ++ [⟨.convDone, k, []⟩] }

/-- POLL against a bus whose fills all return 0x00 emits exactly 1 + POLL_MAX events and returns CONV_TIMEOUT with 0, and
nothing else changes; and every request of the block ends, after at most as many events as its bound, which for POLL is
1 + POLL_MAX (45_conversion R317). -/
def Obligations.PollTimesOutAtItsBound : Prop :=
  (∀ s : State, s.payload = [] → (∀ j, j < s.cfg.pollMax → pollByte s j = 0) →
    exec .poll s = .next { s with
      trace := s.trace ++ [.tx (commandFrame s.cfg.cmdCode.pladc) (relOf s.link)] ++
        (List.range s.cfg.pollMax).map fun _ => .fill 1 [0x00] (relOf s.link)
      answers := s.answers.drop s.cfg.pollMax
      draws := s.draws + s.cfg.pollMax
      results := s.results ++ [⟨.convTimeout, 0, []⟩] }) ∧
  ∀ (i : Instr) (s : State), ∃ t es, exec i s = .next t ∧ t.trace = s.trace ++ es ∧ es.length ≤ eventBound s.cfg i
end

