-- ==== Sys2Proof/Laws/State.lean ====
section
/-! SUPPORT. One lemma per field of the state per named update of it, all true by definition. -/

namespace Sys2Proof.Machine

/-! ### finish -/

@[simp] theorem finish_cfg (r : Result) (s : State) : (finish r s).cfg = s.cfg := rfl

@[simp] theorem finish_chips (r : Result) (s : State) : (finish r s).chips = s.chips := rfl

@[simp] theorem finish_link (r : Result) (s : State) : (finish r s).link = s.link := rfl

@[simp] theorem finish_seq (r : Result) (s : State) : (finish r s).seq = s.seq := rfl

@[simp] theorem finish_trace (r : Result) (s : State) : (finish r s).trace = s.trace := rfl

@[simp] theorem finish_results (r : Result) (s : State) : (finish r s).results = s.results ++ [r] := rfl

@[simp] theorem finish_payload (r : Result) (s : State) : (finish r s).payload = s.payload := rfl

@[simp] theorem finish_requests (r : Result) (s : State) : (finish r s).requests = s.requests := rfl

@[simp] theorem finish_answers (r : Result) (s : State) : (finish r s).answers = s.answers := rfl

@[simp] theorem finish_draws (r : Result) (s : State) : (finish r s).draws = s.draws := rfl

@[simp] theorem finish_gaps (r : Result) (s : State) : (finish r s).gaps = s.gaps := rfl

@[simp] theorem finish_gapDraws (r : Result) (s : State) : (finish r s).gapDraws = s.gapDraws := rfl

/-! ### finishOk -/

@[simp] theorem finishOk_cfg (val : Nat) (s : State) : (finishOk val s).cfg = s.cfg := rfl

@[simp] theorem finishOk_chips (val : Nat) (s : State) : (finishOk val s).chips = s.chips := rfl

@[simp] theorem finishOk_link (val : Nat) (s : State) : (finishOk val s).link = s.link := rfl

@[simp] theorem finishOk_seq (val : Nat) (s : State) : (finishOk val s).seq = s.seq := rfl

@[simp] theorem finishOk_trace (val : Nat) (s : State) : (finishOk val s).trace = s.trace := rfl

@[simp] theorem finishOk_results (val : Nat) (s : State) :
    (finishOk val s).results = s.results ++ [⟨.ok, val, []⟩] := rfl

@[simp] theorem finishOk_payload (val : Nat) (s : State) : (finishOk val s).payload = s.payload := rfl

@[simp] theorem finishOk_requests (val : Nat) (s : State) : (finishOk val s).requests = s.requests := rfl

@[simp] theorem finishOk_answers (val : Nat) (s : State) : (finishOk val s).answers = s.answers := rfl

@[simp] theorem finishOk_draws (val : Nat) (s : State) : (finishOk val s).draws = s.draws := rfl

@[simp] theorem finishOk_gaps (val : Nat) (s : State) : (finishOk val s).gaps = s.gaps := rfl

@[simp] theorem finishOk_gapDraws (val : Nat) (s : State) : (finishOk val s).gapDraws = s.gapDraws := rfl

/-! ### raiseStatus -/

@[simp] theorem raiseStatus_cfg (st : Status) (v : Nat) (s : State) : (raiseStatus st v s).cfg = s.cfg := rfl

@[simp] theorem raiseStatus_chips (st : Status) (v : Nat) (s : State) : (raiseStatus st v s).chips = s.chips := rfl

@[simp] theorem raiseStatus_link (st : Status) (v : Nat) (s : State) : (raiseStatus st v s).link = s.link := rfl

@[simp] theorem raiseStatus_seq (st : Status) (v : Nat) (s : State) : (raiseStatus st v s).seq = s.seq := rfl

@[simp] theorem raiseStatus_trace (st : Status) (v : Nat) (s : State) : (raiseStatus st v s).trace = s.trace := rfl

@[simp] theorem raiseStatus_results (st : Status) (v : Nat) (s : State) :
    (raiseStatus st v s).results = s.results ++ [⟨st, v, []⟩] := rfl

@[simp] theorem raiseStatus_payload (st : Status) (v : Nat) (s : State) :
    (raiseStatus st v s).payload = s.payload := rfl

@[simp] theorem raiseStatus_requests (st : Status) (v : Nat) (s : State) :
    (raiseStatus st v s).requests = s.requests := rfl

@[simp] theorem raiseStatus_answers (st : Status) (v : Nat) (s : State) :
    (raiseStatus st v s).answers = s.answers := rfl

@[simp] theorem raiseStatus_draws (st : Status) (v : Nat) (s : State) : (raiseStatus st v s).draws = s.draws := rfl

@[simp] theorem raiseStatus_gaps (st : Status) (v : Nat) (s : State) : (raiseStatus st v s).gaps = s.gaps := rfl

@[simp] theorem raiseStatus_gapDraws (st : Status) (v : Nat) (s : State) :
    (raiseStatus st v s).gapDraws = s.gapDraws := rfl

/-! ### updChip -/

@[simp] theorem updChip_cfg (i : Nat) (f : Chip → Chip) (s : State) : (updChip i f s).cfg = s.cfg := rfl

@[simp] theorem updChip_chips (i : Nat) (f : Chip → Chip) (s : State) :
    (updChip i f s).chips = s.chips.modify i f := rfl

@[simp] theorem updChip_link (i : Nat) (f : Chip → Chip) (s : State) : (updChip i f s).link = s.link := rfl

@[simp] theorem updChip_seq (i : Nat) (f : Chip → Chip) (s : State) : (updChip i f s).seq = s.seq := rfl

@[simp] theorem updChip_trace (i : Nat) (f : Chip → Chip) (s : State) : (updChip i f s).trace = s.trace := rfl

@[simp] theorem updChip_results (i : Nat) (f : Chip → Chip) (s : State) : (updChip i f s).results = s.results := rfl

@[simp] theorem updChip_payload (i : Nat) (f : Chip → Chip) (s : State) : (updChip i f s).payload = s.payload := rfl

@[simp] theorem updChip_requests (i : Nat) (f : Chip → Chip) (s : State) :
    (updChip i f s).requests = s.requests := rfl

@[simp] theorem updChip_answers (i : Nat) (f : Chip → Chip) (s : State) : (updChip i f s).answers = s.answers := rfl

@[simp] theorem updChip_draws (i : Nat) (f : Chip → Chip) (s : State) : (updChip i f s).draws = s.draws := rfl

@[simp] theorem updChip_gaps (i : Nat) (f : Chip → Chip) (s : State) : (updChip i f s).gaps = s.gaps := rfl

@[simp] theorem updChip_gapDraws (i : Nat) (f : Chip → Chip) (s : State) :
    (updChip i f s).gapDraws = s.gapDraws := rfl

/-! ### storeAll -/

@[simp] theorem storeAll_cfg (f : Group → Chip → Chip) (response : List Byte) (s : State) :
    (storeAll f response s).cfg = s.cfg := rfl

@[simp] theorem storeAll_chips (f : Group → Chip → Chip) (response : List Byte) (s : State) :
    (storeAll f response s).chips = s.chips.mapIdx fun i c => f (groupAt s.cfg response i) c := rfl

@[simp] theorem storeAll_link (f : Group → Chip → Chip) (response : List Byte) (s : State) :
    (storeAll f response s).link = s.link := rfl

@[simp] theorem storeAll_seq (f : Group → Chip → Chip) (response : List Byte) (s : State) :
    (storeAll f response s).seq = s.seq := rfl

@[simp] theorem storeAll_trace (f : Group → Chip → Chip) (response : List Byte) (s : State) :
    (storeAll f response s).trace = s.trace := rfl

@[simp] theorem storeAll_results (f : Group → Chip → Chip) (response : List Byte) (s : State) :
    (storeAll f response s).results = s.results := rfl

@[simp] theorem storeAll_payload (f : Group → Chip → Chip) (response : List Byte) (s : State) :
    (storeAll f response s).payload = s.payload := rfl

@[simp] theorem storeAll_requests (f : Group → Chip → Chip) (response : List Byte) (s : State) :
    (storeAll f response s).requests = s.requests := rfl

@[simp] theorem storeAll_answers (f : Group → Chip → Chip) (response : List Byte) (s : State) :
    (storeAll f response s).answers = s.answers := rfl

@[simp] theorem storeAll_draws (f : Group → Chip → Chip) (response : List Byte) (s : State) :
    (storeAll f response s).draws = s.draws := rfl

@[simp] theorem storeAll_gaps (f : Group → Chip → Chip) (response : List Byte) (s : State) :
    (storeAll f response s).gaps = s.gaps := rfl

@[simp] theorem storeAll_gapDraws (f : Group → Chip → Chip) (response : List Byte) (s : State) :
    (storeAll f response s).gapDraws = s.gapDraws := rfl

/-! ### busTx -/

@[simp] theorem busTx_cfg (bytes : List Byte) (s : State) : (busTx bytes s).cfg = s.cfg := rfl

@[simp] theorem busTx_chips (bytes : List Byte) (s : State) : (busTx bytes s).chips = s.chips := rfl

@[simp] theorem busTx_link (bytes : List Byte) (s : State) : (busTx bytes s).link = s.link := rfl

@[simp] theorem busTx_seq (bytes : List Byte) (s : State) : (busTx bytes s).seq = s.seq := rfl

@[simp] theorem busTx_trace (bytes : List Byte) (s : State) :
    (busTx bytes s).trace = s.trace ++ [.tx bytes (relOf s.link)] := rfl

@[simp] theorem busTx_results (bytes : List Byte) (s : State) : (busTx bytes s).results = s.results := rfl

@[simp] theorem busTx_payload (bytes : List Byte) (s : State) : (busTx bytes s).payload = s.payload := rfl

@[simp] theorem busTx_requests (bytes : List Byte) (s : State) : (busTx bytes s).requests = s.requests := rfl

@[simp] theorem busTx_answers (bytes : List Byte) (s : State) : (busTx bytes s).answers = s.answers := rfl

@[simp] theorem busTx_draws (bytes : List Byte) (s : State) : (busTx bytes s).draws = s.draws := rfl

@[simp] theorem busTx_gaps (bytes : List Byte) (s : State) : (busTx bytes s).gaps = s.gaps := rfl

@[simp] theorem busTx_gapDraws (bytes : List Byte) (s : State) : (busTx bytes s).gapDraws = s.gapDraws := rfl

/-! ### busTxRx -/

@[simp] theorem busTxRx_cfg (bytes : List Byte) (n : Nat) (s : State) : (busTxRx bytes n s).cfg = s.cfg := rfl

@[simp] theorem busTxRx_chips (bytes : List Byte) (n : Nat) (s : State) : (busTxRx bytes n s).chips = s.chips := rfl

@[simp] theorem busTxRx_link (bytes : List Byte) (n : Nat) (s : State) : (busTxRx bytes n s).link = s.link := rfl

@[simp] theorem busTxRx_seq (bytes : List Byte) (n : Nat) (s : State) : (busTxRx bytes n s).seq = s.seq := rfl

@[simp] theorem busTxRx_trace (bytes : List Byte) (n : Nat) (s : State) :
    (busTxRx bytes n s).trace = s.trace ++ [.txrx bytes n (responseOf s) (relOf s.link)] := rfl

@[simp] theorem busTxRx_results (bytes : List Byte) (n : Nat) (s : State) :
    (busTxRx bytes n s).results = s.results := rfl

@[simp] theorem busTxRx_payload (bytes : List Byte) (n : Nat) (s : State) :
    (busTxRx bytes n s).payload = s.payload := rfl

@[simp] theorem busTxRx_requests (bytes : List Byte) (n : Nat) (s : State) :
    (busTxRx bytes n s).requests = s.requests := rfl

@[simp] theorem busTxRx_answers (bytes : List Byte) (n : Nat) (s : State) :
    (busTxRx bytes n s).answers = s.answers.tail := rfl

@[simp] theorem busTxRx_draws (bytes : List Byte) (n : Nat) (s : State) :
    (busTxRx bytes n s).draws = s.draws + 1 := rfl

@[simp] theorem busTxRx_gaps (bytes : List Byte) (n : Nat) (s : State) : (busTxRx bytes n s).gaps = s.gaps := rfl

@[simp] theorem busTxRx_gapDraws (bytes : List Byte) (n : Nat) (s : State) :
    (busTxRx bytes n s).gapDraws = s.gapDraws := rfl

/-! ### busFill -/

@[simp] theorem busFill_cfg (n : Nat) (s : State) : (busFill n s).cfg = s.cfg := rfl

@[simp] theorem busFill_chips (n : Nat) (s : State) : (busFill n s).chips = s.chips := rfl

@[simp] theorem busFill_link (n : Nat) (s : State) : (busFill n s).link = s.link := rfl

@[simp] theorem busFill_seq (n : Nat) (s : State) : (busFill n s).seq = s.seq := rfl

@[simp] theorem busFill_trace (n : Nat) (s : State) :
    (busFill n s).trace = s.trace ++ [.fill n (fillOf n s) (relOf s.link)] := rfl

@[simp] theorem busFill_results (n : Nat) (s : State) : (busFill n s).results = s.results := rfl

@[simp] theorem busFill_payload (n : Nat) (s : State) : (busFill n s).payload = s.payload := rfl

@[simp] theorem busFill_requests (n : Nat) (s : State) : (busFill n s).requests = s.requests := rfl

@[simp] theorem busFill_answers (n : Nat) (s : State) : (busFill n s).answers = s.answers.tail := rfl

@[simp] theorem busFill_draws (n : Nat) (s : State) : (busFill n s).draws = s.draws + 1 := rfl

@[simp] theorem busFill_gaps (n : Nat) (s : State) : (busFill n s).gaps = s.gaps := rfl

@[simp] theorem busFill_gapDraws (n : Nat) (s : State) : (busFill n s).gapDraws = s.gapDraws := rfl

/-! ### busDelay -/

@[simp] theorem busDelay_cfg (us : Nat) (s : State) : (busDelay us s).cfg = s.cfg := rfl

@[simp] theorem busDelay_chips (us : Nat) (s : State) : (busDelay us s).chips = s.chips := rfl

@[simp] theorem busDelay_link (us : Nat) (s : State) : (busDelay us s).link = s.link := rfl

@[simp] theorem busDelay_seq (us : Nat) (s : State) : (busDelay us s).seq = s.seq := rfl

@[simp] theorem busDelay_trace (us : Nat) (s : State) : (busDelay us s).trace = s.trace ++ [.delay us] := rfl

@[simp] theorem busDelay_results (us : Nat) (s : State) : (busDelay us s).results = s.results := rfl

@[simp] theorem busDelay_payload (us : Nat) (s : State) : (busDelay us s).payload = s.payload := rfl

@[simp] theorem busDelay_requests (us : Nat) (s : State) : (busDelay us s).requests = s.requests := rfl

@[simp] theorem busDelay_answers (us : Nat) (s : State) : (busDelay us s).answers = s.answers := rfl

@[simp] theorem busDelay_draws (us : Nat) (s : State) : (busDelay us s).draws = s.draws := rfl

@[simp] theorem busDelay_gaps (us : Nat) (s : State) : (busDelay us s).gaps = s.gaps := rfl

@[simp] theorem busDelay_gapDraws (us : Nat) (s : State) : (busDelay us s).gapDraws = s.gapDraws := rfl

/-! ### exchange -/

@[simp] theorem exchange_cfg (c : CmdCode) (s : State) : (exchange c s).cfg = s.cfg := rfl

@[simp] theorem exchange_chips (c : CmdCode) (s : State) : (exchange c s).chips = s.chips := rfl

@[simp] theorem exchange_link (c : CmdCode) (s : State) : (exchange c s).link = s.link := rfl

@[simp] theorem exchange_seq (c : CmdCode) (s : State) : (exchange c s).seq = s.seq := rfl

@[simp] theorem exchange_trace (c : CmdCode) (s : State) :
    (exchange c s).trace = s.trace ++ [.txrx (commandFrame c) (8 * s.cfg.n) (responseOf s) (relOf s.link)] := rfl

@[simp] theorem exchange_results (c : CmdCode) (s : State) : (exchange c s).results = s.results := rfl

@[simp] theorem exchange_payload (c : CmdCode) (s : State) : (exchange c s).payload = s.payload := rfl

@[simp] theorem exchange_requests (c : CmdCode) (s : State) : (exchange c s).requests = s.requests := rfl

@[simp] theorem exchange_answers (c : CmdCode) (s : State) : (exchange c s).answers = s.answers.tail := rfl

@[simp] theorem exchange_draws (c : CmdCode) (s : State) : (exchange c s).draws = s.draws + 1 := rfl

@[simp] theorem exchange_gaps (c : CmdCode) (s : State) : (exchange c s).gaps = s.gaps := rfl

@[simp] theorem exchange_gapDraws (c : CmdCode) (s : State) : (exchange c s).gapDraws = s.gapDraws := rfl

/-! ### present -/

@[simp] theorem present_cfg (rq : Request) (s : State) : (present rq s).cfg = s.cfg := rfl

@[simp] theorem present_chips (rq : Request) (s : State) : (present rq s).chips = s.chips := rfl

@[simp] theorem present_link (rq : Request) (s : State) : (present rq s).link = lowerLink s.link (gapChoice s) := rfl

@[simp] theorem present_seq (rq : Request) (s : State) : (present rq s).seq = s.seq := rfl

@[simp] theorem present_trace (rq : Request) (s : State) : (present rq s).trace = s.trace := rfl

@[simp] theorem present_results (rq : Request) (s : State) : (present rq s).results = s.results := rfl

@[simp] theorem present_payload (rq : Request) (s : State) : (present rq s).payload = rq.payload := rfl

@[simp] theorem present_requests (rq : Request) (s : State) : (present rq s).requests = s.requests.tail := rfl

@[simp] theorem present_answers (rq : Request) (s : State) : (present rq s).answers = s.answers := rfl

@[simp] theorem present_draws (rq : Request) (s : State) : (present rq s).draws = s.draws := rfl

@[simp] theorem present_gaps (rq : Request) (s : State) : (present rq s).gaps = s.gaps.tail := rfl

@[simp] theorem present_gapDraws (rq : Request) (s : State) : (present rq s).gapDraws = s.gapDraws + 1 := rfl

/-! ### Fetching -/

@[simp] theorem withFetchWord_requests (s : State) (nbits w : Nat) :
    (s.withFetchWord nbits w).requests = ⟨BitVec.ofNat 32 (w % 2 ^ nbits), []⟩ :: s.requests := rfl

@[simp] theorem withFetchWord_cfg (s : State) (nbits w : Nat) : (s.withFetchWord nbits w).cfg = s.cfg := rfl

end Sys2Proof.Machine
end

