-- ==== Sys2Proof/Laws/Ops.lean ====
section
/-! SUPPORT. One lemma per shared operation that says once what it can do; a proof cites it and does not unfold the
operation. The block has no addressable memory (20_memory R80), so there is no canonical form to keep. -/

namespace Sys2Proof.Machine

/-! ### Checks -/

@[simp] theorem firstFailing_nil : firstFailing [] = none := rfl

@[simp] theorem firstFailing_cons (fails : Bool) (r : Reason) (rest : List (Bool × Reason)) :
    firstFailing ((fails, r) :: rest) = if fails then some r else firstFailing rest := rfl

theorem firstFailing_eq_none_iff (checks : List (Bool × Reason)) :
    firstFailing checks = none ↔ ∀ c ∈ checks, c.1 = false := by
  induction checks with
  | nil => simp
  | cons c rest ih =>
    obtain ⟨b, r⟩ := c
    cases b <;> simp [ih]

theorem guarded_of_pass {checks : List (Bool × Reason)} (body : State → State) (s : State)
    (h : firstFailing checks = none) : guarded checks body s = body s := by
  simp [guarded, h]

theorem guarded_of_fail {checks : List (Bool × Reason)} {r : Reason} (body : State → State) (s : State)
    (h : firstFailing checks = some r) : guarded checks body s = raiseStatus .invalidParam (reasonCode r) s := by
  simp [guarded, h]

theorem guarded_cases (checks : List (Bool × Reason)) (body : State → State) (s : State) :
    guarded checks body s = body s ∨
      ∃ r, firstFailing checks = some r ∧ guarded checks body s = raiseStatus .invalidParam (reasonCode r) s := by
  cases h : firstFailing checks with
  | none => exact .inl (guarded_of_pass body s h)
  | some r => exact .inr ⟨r, rfl, guarded_of_fail body s h⟩

/-! ### The register model -/

theorem chipOf_of_lt {s : State} {i : Nat} (h : i < s.chips.length) : chipOf s i = s.chips[i] := by
  simp [chipOf, h]

theorem chipOf_of_ge {s : State} {i : Nat} (h : s.chips.length ≤ i) : chipOf s i = Chip.zero := by
  simp [chipOf, h]

theorem updChip_length (i : Nat) (f : Chip → Chip) (s : State) : (updChip i f s).chips.length = s.chips.length := by
  simp [updChip]

theorem chipOf_updChip (i j : Nat) (f : Chip → Chip) (s : State) :
    chipOf (updChip i f s) j = if j = i ∧ i < s.chips.length then f (chipOf s i) else chipOf s j := by
  simp only [chipOf, updChip, List.getElem?_modify]
  by_cases h : j = i
  · subst h
    by_cases hl : j < s.chips.length <;> simp [hl]
  · simp [h, Ne.symm h]

theorem storeAll_length (store : Group → Chip → Chip) (response : List Byte) (s : State) :
    (storeAll store response s).chips.length = s.chips.length := by
  simp [storeAll]

theorem chipOf_storeAll (store : Group → Chip → Chip) (response : List Byte) (s : State) (i : Nat) :
    chipOf (storeAll store response s) i =
      if i < s.chips.length then store (groupAt s.cfg response i) (chipOf s i) else chipOf s i := by
  by_cases h : i < s.chips.length <;> simp [chipOf, storeAll, h]

@[simp] theorem cfgGroup_setCfgGroup_self (r : CfgReg) (g : CfgGroup) (c : Chip) :
    cfgGroup r (setCfgGroup r g c) = g := by
  cases r <;> rfl

theorem cfgGroup_setCfgGroup_of_ne {r r' : CfgReg} (h : r' ≠ r) (g : CfgGroup) (c : Chip) :
    cfgGroup r' (setCfgGroup r g c) = cfgGroup r' c := by
  cases r <;> cases r' <;> first | exact absurd rfl h | rfl

@[simp] theorem setCfgGroup_setCfgGroup (r : CfgReg) (g g' : CfgGroup) (c : Chip) :
    setCfgGroup r g (setCfgGroup r g' c) = setCfgGroup r g c := by
  cases r <;> rfl

/-- Every bit of a field write: the mask's bits from the value, every other bit as before (43_register_codec R221). -/
theorem packField_getLsbD (b mask v : Byte) (s j : Nat) :
    (packField b mask v s).getLsbD j = if mask.getLsbD j then (v <<< s).getLsbD j else b.getLsbD j := by
  by_cases h : mask.getLsbD j
  · simp [packField, h]
  · simp only [packField, BitVec.getLsbD_or, BitVec.getLsbD_and, BitVec.getLsbD_not, h]
    by_cases hj : j < 8
    · simp [hj]
    · simp [BitVec.getLsbD_of_ge, Nat.le_of_not_lt hj]

theorem packTx_eq (r : CfgReg) (k : Nat) (m v : Byte) (s : Nat) (c : Chip) :
    packTx r k m v s c = setCfgGroup r { cfgGroup r c with
      tx := (cfgGroup r c).tx.setIfInBounds k (packField (cfgTx r k c) m v s) } c := rfl

theorem packTx_tx (r : CfgReg) (k : Nat) (m v : Byte) (s : Nat) (c : Chip) :
    (cfgGroup r (packTx r k m v s c)).tx =
      (cfgGroup r c).tx.setIfInBounds k (packField (cfgTx r k c) m v s) := by
  simp [packTx_eq]

/-! ### Counters -/

theorem le_satInc (w x : Nat) : x ≤ satInc w x := by
  unfold satInc; split <;> omega

theorem satInc_le {w x : Nat} (h : x ≤ 2 ^ w - 1) : satInc w x ≤ 2 ^ w - 1 := by
  unfold satInc; split <;> omega

theorem satInc_of_lt {w x : Nat} (h : x < 2 ^ w - 1) : satInc w x = x + 1 := by
  unfold satInc; split <;> omega

theorem bumpCounter_cnt (w c j : Nat) (chip : Chip) :
    (bumpCounter w c chip).cnt[j]?.getD 0 =
      if j = c ∧ c < 14 then satInc w (chip.cnt[c]?.getD 0) else chip.cnt[j]?.getD 0 := by
  by_cases h : c = j
  · subst h
    by_cases hc : c < 14 <;> simp [bumpCounter, hc]
  · simp [bumpCounter, h, Ne.symm h]

/-- Account increments the global counter and the counter of the register type once each, and no other
(44_measurement_parser R269, R270). -/
theorem account_cnt (w id j : Nat) (chip : Chip) (hid : id ≤ 13) :
    (account w id chip).cnt[j]?.getD 0 =
      if j = 0 ∨ j = counterId id then satInc w (chip.cnt[j]?.getD 0) else chip.cnt[j]?.getD 0 := by
  have h1 : 1 ≤ counterId id ∧ counterId id ≤ 13 := by unfold counterId; split <;> omega
  simp only [account, bumpCounter_cnt]
  by_cases h0 : j = 0
  · subst h0; simp [show ¬ (0 = counterId id) by omega]
  · by_cases hc : j = counterId id
    · subst hc; simp [h0, show counterId id < 14 by omega]
    · simp [h0, hc]

theorem account_eq (w id : Nat) (chip : Chip) : account w id chip = { chip with cnt := (account w id chip).cnt } := rfl

/-! ### Receives -/

@[simp] theorem fillOf_length (n : Nat) (s : State) : (fillOf n s).length = n := by
  simp [fillOf]

theorem afterReceives_zero (s : State) : afterReceives 0 s = s := by
  simp [afterReceives]

/-- One receive and then k more are k + 1. -/
theorem afterReceives_busFill (n k : Nat) (s : State) :
    (afterReceives k (busFill n s)).answers = (afterReceives (k + 1) s).answers ∧
      (afterReceives k (busFill n s)).draws = (afterReceives (k + 1) s).draws := by
  simp [afterReceives]; omega

/-- What a fill returns depends only on the answers and the count of receives. -/
theorem fillOf_congr {n : Nat} {s t : State} (ha : s.answers = t.answers) (hd : s.draws = t.draws) :
    fillOf n s = fillOf n t := by
  simp [fillOf, ha, hd]

/-- What a transmit-and-receive returns depends only on the answers and the count of receives. -/
theorem responseOf_congr {s t : State} (ha : s.answers = t.answers) (hd : s.draws = t.draws) :
    responseOf s = responseOf t := by
  simp [responseOf, ha, hd]

theorem fillNo_busFill (m n k : Nat) (s : State) : fillNo m (busFill n s) k = fillNo m s (k + 1) :=
  fillOf_congr (afterReceives_busFill n k s).1 (afterReceives_busFill n k s).2

theorem fillNo_zero (m : Nat) (s : State) : fillNo m s 0 = fillOf m s := by
  simp [fillNo, afterReceives_zero]

theorem responseNo_zero (s : State) : responseNo s 0 = responseOf s := by
  simp [responseNo, afterReceives_zero]

/-! ### Events -/

@[simp] theorem bytesOut_tx (c : Cfg) (bytes : List Byte) (rel : Rel) : bytesOut c (.tx bytes rel) = bytes := rfl

@[simp] theorem bytesOut_txrx (c : Cfg) (bytes : List Byte) (n : Nat) (response : List Byte) (rel : Rel) :
    bytesOut c (.txrx bytes n response rel) = bytes := rfl

/-- A fill clocks out n bytes of FILLER (20_memory R87). -/
@[simp] theorem bytesOut_fill (c : Cfg) (n : Nat) (response : List Byte) (rel : Rel) :
    bytesOut c (.fill n response rel) = List.replicate n c.filler := rfl

@[simp] theorem bytesOut_delay (c : Cfg) (us : Nat) : bytesOut c (.delay us) = [] := rfl

@[simp] theorem eraseMark_tx (bytes : List Byte) (rel : Rel) : eraseMark (.tx bytes rel) = .tx bytes .unreliable := rfl

@[simp] theorem eraseMark_txrx (bytes : List Byte) (n : Nat) (response : List Byte) (rel : Rel) :
    eraseMark (.txrx bytes n response rel) = .txrx bytes n response .unreliable := rfl

@[simp] theorem eraseMark_fill (n : Nat) (response : List Byte) (rel : Rel) :
    eraseMark (.fill n response rel) = .fill n response .unreliable := rfl

@[simp] theorem eraseMark_delay (us : Nat) : eraseMark (.delay us) = .delay us := rfl

/-! ### One read exchange -/

theorem readOne_of_shapeOk {s : State} (c : CmdCode) (k id : Nat) (store : Group → Chip → Chip)
    (h : shapeOk s = true) : readOne c k id store s =
      finish (readResult (mismatches s.cfg (responseOf s) id)) (storeAll store (responseOf s) (exchange c s)) := by
  simp [readOne, h]

theorem readOne_of_not_shapeOk {s : State} (c : CmdCode) (k id : Nat) (store : Group → Chip → Chip)
    (h : shapeOk s = false) : readOne c k id store s = raiseStatus .shapeError k (exchange c s) := by
  simp [readOne, h]

theorem readOne_cases (c : CmdCode) (k id : Nat) (store : Group → Chip → Chip) (s : State) :
    readOne c k id store s =
        finish (readResult (mismatches s.cfg (responseOf s) id)) (storeAll store (responseOf s) (exchange c s)) ∨
      readOne c k id store s = raiseStatus .shapeError k (exchange c s) := by
  cases h : shapeOk s
  · exact .inr (readOne_of_not_shapeOk c k id store h)
  · exact .inl (readOne_of_shapeOk c k id store h)

theorem mem_mismatches {cfg : Cfg} {response : List Byte} {id : Nat} {m : Nat × Nat}
    (h : m ∈ mismatches cfg response id) : m.1 < cfg.n ∧ m.2 = id := by
  simp only [mismatches, List.mem_map, List.mem_filter, List.mem_range] at h
  obtain ⟨i, ⟨hi, -⟩, rfl⟩ := h
  exact ⟨hi, rfl⟩

/-- The read-all loop keeps what every one of its steps keeps. -/
theorem readAllFrom_induct (kind : Kind) (P : State → Prop)
    (hx : ∀ c s, P s → P (exchange c s))
    (hs : ∀ k response s, P s → P (storeAll (storeMeasurement s.cfg.cntW kind k) response s))
    (hf : ∀ r s, P s → P (finish r s)) :
    ∀ (ks : List Nat) (mism : List (Nat × Nat)) (s : State), P s → P (readAllFrom kind ks mism s) := by
  intro ks
  induction ks with
  | nil => intro mism s h; exact hf _ _ h
  | cons k ks ih =>
    intro mism s h
    simp only [readAllFrom]
    split
    · exact ih _ _ (hs k _ (exchange _ s) (hx _ _ h))
    · exact hf _ _ (hx _ _ h)

/-! ### The wake loops -/

/-- k passes of WAKE_IDLE's loop (42_link_sequencer R206). -/
theorem repeatStep_idleFill (k : Nat) (s : State) : repeatStep idleFillOnce k s = { s with
    trace := s.trace ++ (List.range k).map fun j => .fill 1 (fillNo 1 s j) (relOf s.link)
    answers := s.answers.drop k
    draws := s.draws + k } := by
  induction k generalizing s with
  | zero => simp [repeatStep]
  | succ k ih =>
    simp only [repeatStep, ih, idleFillOnce]
    simp only [fillNo_busFill, List.range_succ_eq_map, List.map_cons, List.map_map, fillNo_zero]
    simp [busFill, linkAfterBus, Nat.add_comm, Nat.add_left_comm, Function.comp_def]

/-- k passes of WAKE_SLEEP's loop (42_link_sequencer R207). -/
theorem repeatStep_sleepBurst (k : Nat) (s : State) : repeatStep sleepBurstOnce k s = { s with
    trace := s.trace ++ (List.range k).flatMap fun j =>
      [.fill (wakeSleepBytes s.cfg) (fillNo (wakeSleepBytes s.cfg) s j) (relOf s.link), .delay s.cfg.tPauseUs]
    answers := s.answers.drop k
    draws := s.draws + k } := by
  induction k generalizing s with
  | zero => simp [repeatStep]
  | succ k ih =>
    have hd : ∀ m us j, fillNo m (busDelay us (busFill m s)) j = fillNo m s (j + 1) := fun m us j =>
      fillNo_busFill m m j s
    simp only [repeatStep, ih, sleepBurstOnce]
    simp only [busDelay_cfg, busFill_cfg, hd, List.range_succ_eq_map, List.flatMap_cons, List.flatMap_map, fillNo_zero]
    simp [busDelay, busFill, linkAfterBus, Nat.add_comm, Nat.add_left_comm]

/-! ### The poll loop -/

/-- The poll loop with `left` fills to go ends at the first non-zero byte (45_conversion R315). -/
theorem pollFrom_done (m : Nat) : ∀ (left k : Nat) (s : State), m < left →
    (∀ j, j < m → (fillNo 1 s j).headD 0 = 0) → (fillNo 1 s m).headD 0 ≠ 0 →
    pollFrom left k s = { s with
      trace := s.trace ++ (List.range (m + 1)).map fun j => .fill 1 (fillNo 1 s j) (relOf s.link)
      answers := s.answers.drop (m + 1)
      draws := s.draws + (m + 1)
      results := s.results ++ [⟨.convDone, k + m, []⟩] } := by
  induction m with
  | zero =>
    intro left k s hl _ hn
    obtain ⟨l, rfl⟩ : ∃ l, left = l + 1 := ⟨left - 1, by omega⟩
    rw [fillNo_zero] at hn
    simp only [pollFrom, hn, if_false]
    simp [finish, busFill, linkAfterBus, fillNo_zero]
  | succ m ih =>
    intro left k s hl hz hn
    obtain ⟨l, rfl⟩ : ∃ l, left = l + 1 := ⟨left - 1, by omega⟩
    have h0 : (fillOf 1 s).headD 0 = 0 := by simpa [fillNo_zero] using hz 0 (by omega)
    simp only [pollFrom, h0, if_true]
    rw [ih l (k + 1) (busFill 1 s) (by omega)
      (fun j hj => by rw [fillNo_busFill]; exact hz (j + 1) (by omega)) (by rw [fillNo_busFill]; exact hn)]
    simp only [fillNo_busFill]
    rw [List.range_succ_eq_map (n := m + 1)]
    simp only [List.map_cons, List.map_map, fillNo_zero]
    simp [busFill, linkAfterBus, Nat.add_comm, Nat.add_left_comm, Function.comp_def]

/-- The poll loop whose fills all return 0x00 runs out (45_conversion R315, R317). -/
theorem pollFrom_timeout (left : Nat) : ∀ (k : Nat) (s : State),
    (∀ j, j < left → (fillNo 1 s j).headD 0 = 0) →
    pollFrom left k s = { s with
      trace := s.trace ++ (List.range left).map fun j => .fill 1 (fillNo 1 s j) (relOf s.link)
      answers := s.answers.drop left
      draws := s.draws + left
      results := s.results ++ [⟨.convTimeout, 0, []⟩] } := by
  induction left with
  | zero => intro k s _; simp [pollFrom, finish]
  | succ l ih =>
    intro k s hz
    have h0 : (fillOf 1 s).headD 0 = 0 := by simpa [fillNo_zero] using hz 0 (by omega)
    simp only [pollFrom, h0, if_true]
    rw [ih (k + 1) (busFill 1 s) (fun j hj => by rw [fillNo_busFill]; exact hz (j + 1) (by omega))]
    simp only [fillNo_busFill]
    rw [List.range_succ_eq_map (n := l)]
    simp only [List.map_cons, List.map_map, fillNo_zero]
    simp [busFill, linkAfterBus, Nat.add_comm, Nat.add_left_comm, Function.comp_def]

/-- The poll loop ends at the first non-zero byte or runs out. -/
theorem pollFrom_cases (left : Nat) (s : State) :
    (∃ m, m < left ∧ (∀ j, j < m → (fillNo 1 s j).headD 0 = 0) ∧ (fillNo 1 s m).headD 0 ≠ 0) ∨
      ∀ j, j < left → (fillNo 1 s j).headD 0 = 0 := by
  classical
  by_cases h : ∃ m, m < left ∧ (fillNo 1 s m).headD 0 ≠ 0
  · refine .inl ⟨Nat.find h, (Nat.find_spec h).1, fun j hj => ?_, (Nat.find_spec h).2⟩
    by_contra hne
    exact Nat.find_min h hj ⟨by have := (Nat.find_spec h).1; omega, hne⟩
  · refine .inr fun j hj => ?_
    by_contra hne
    exact h ⟨j, hj, hne⟩

end Sys2Proof.Machine
end

