-- ==== Sys2Proof/Laws/Flags.lean ====
section
/-! SUPPORT. What storing a received group does to one chip, field by field (44_measurement_parser R261 to R270,
41_frame_builder R170, R171). -/

namespace Sys2Proof.Machine

@[simp] theorem decodeGroup_cnt (kind : Kind) (k : Nat) (g : Group) (c : Chip) : (decodeGroup kind k g c).cnt = c.cnt := by
  cases kind <;> simp only [decodeGroup]
  split <;> rfl

@[simp] theorem setKindFlag_cnt (kind : Kind) (k : Nat) (m : Bool) (c : Chip) : (setKindFlag kind k m c).cnt = c.cnt := by
  cases kind <;> rfl

@[simp] theorem setCfgGroup_cnt (r : CfgReg) (g : CfgGroup) (c : Chip) : (setCfgGroup r g c).cnt = c.cnt := by
  cases r <;> rfl

/-- A completed read of a measurement group accounts a mismatch and nothing else (44_measurement_parser R269). -/
theorem storeMeasurement_cnt (w : Nat) (kind : Kind) (k : Nat) (g : Group) (c : Chip) (j : Nat)
    (hid : regId kind k ≤ 13) : (storeMeasurement w kind k g c).cnt[j]?.getD 0 =
      if groupOk g = false ∧ (j = 0 ∨ j = counterId (regId kind k)) then satInc w (c.cnt[j]?.getD 0)
      else c.cnt[j]?.getD 0 := by
  unfold storeMeasurement
  cases h : groupOk g
  · simp [account_cnt w _ j _ hid]
  · simp

/-- A completed READ_CFG accounts a mismatch and nothing else (44_measurement_parser R269). -/
theorem storeCfgGroup_cnt (w : Nat) (r : CfgReg) (g : Group) (c : Chip) (j : Nat) :
    (storeCfgGroup w r g c).cnt[j]?.getD 0 =
      if groupOk g = false ∧ (j = 0 ∨ j = 1) then satInc w (c.cnt[j]?.getD 0) else c.cnt[j]?.getD 0 := by
  have hid : cfgRegId r ≤ 13 ∧ counterId (cfgRegId r) = 1 := by cases r <;> decide
  unfold storeCfgGroup
  cases h : groupOk g
  · simp [account_cnt w _ j _ hid.1, hid.2]
  · simp

theorem storeCommGroup_cnt (g : Group) (c : Chip) : (storeCommGroup g c).cnt = c.cnt := rfl

/-- The codes and the flag a measurement read stores do not depend on whether the PEC matched, but for the counters
(44_measurement_parser R262). -/
theorem storeMeasurement_eq (w : Nat) (kind : Kind) (k : Nat) (g : Group) (c : Chip) :
    storeMeasurement w kind k g c = { setKindFlag kind k (!groupOk g) (decodeGroup kind k g c) with
      cnt := (storeMeasurement w kind k g c).cnt } := by
  unfold storeMeasurement
  cases groupOk g <;> rfl

/-- What READ_CFG stores, but for the counters (41_frame_builder R170). -/
theorem storeCfgGroup_eq (w : Nat) (r : CfgReg) (g : Group) (c : Chip) :
    storeCfgGroup w r g c = { setCfgGroup r { cfgGroup r c with rx := groupBytes g, pecErr := !groupOk g } c with
      cnt := (storeCfgGroup w r g c).cnt } := by
  unfold storeCfgGroup
  cases groupOk g <;> rfl

end Sys2Proof.Machine
end

