-- ==== Sys2Proof/Laws/Frames.lean ====
section
/-! SUPPORT. The small lemmas of the PEC, the frames and the position map: lengths, where a block stands, and that the
PEC remainder is additive over GF(2) (40_pec15 R146). -/

namespace Sys2Proof.Machine

/-! ### Lengths -/

@[simp] theorem pecBytes_length (bytes : List Byte) : (pecBytes bytes).length = 2 := rfl

@[simp] theorem commandBytes_length (c : CmdCode) : (commandBytes c).length = 2 := rfl

@[simp] theorem commandFrame_length (c : CmdCode) : (commandFrame c).length = 4 := rfl

@[simp] theorem writeBlock_length (data : List Byte) : (writeBlock data).length = data.length + 2 := by
  simp [writeBlock]

@[simp] theorem groupBytes_toList (g : Group) : (groupBytes g).toList = g.data.toList ++ [g.h, g.l] := by
  obtain ⟨d, h, l⟩ := g
  apply List.ext_getElem
  · simp
  · intro n h1 h2
    simp only [groupBytes, Vector.getElem_toList]
    have hn : n < 8 := by simpa using h1
    interval_cases n <;> simp

/-! ### Blocks of eight bytes -/

theorem flatMap_blocks_length {n : Nat} {f : Nat → List Byte} (hf : ∀ j, j < n → (f j).length = 8) :
    ((List.range n).flatMap f).length = 8 * n := by
  induction n with
  | zero => simp
  | succ n ih =>
    rw [List.range_succ, List.flatMap_append, List.length_append, ih fun j hj => hf j (by omega)]
    simp [hf n (by omega)]; omega

/-- Block j of a list of eight-byte blocks. -/
theorem flatMap_blocks_get {n : Nat} {f : Nat → List Byte} (hf : ∀ j, j < n → (f j).length = 8) {j : Nat}
    (hj : j < n) : (((List.range n).flatMap f).drop (8 * j)).take 8 = f j := by
  induction n with
  | zero => omega
  | succ n ih =>
    have hl := flatMap_blocks_length (n := n) (f := f) fun j hj => hf j (by omega)
    rw [List.range_succ, List.flatMap_append]
    by_cases h : j < n
    · rw [List.drop_append_of_le_length (by omega), List.take_append_of_le_length (by simp [hl]; omega)]
      exact ih (fun j hj => hf j (by omega)) h
    · obtain rfl : j = n := by omega
      rw [← hl, List.drop_left]
      simpa using List.take_of_length_le (Nat.le_of_eq (hf j hj))

/-! ### The position map -/

theorem pos_lt {c : Cfg} {i : Nat} (h : i < c.n) : pos c i < c.n := by
  unfold pos; split <;> omega

/-! ### The PEC remainder -/

/-- The remainder loop over a bit is additive. -/
theorem pecBit_xor (r s : BitVec 15) (a b : Bool) : pecBit (r ^^^ s) (a ^^ b) = pecBit r a ^^^ pecBit s b := by
  have hx : (r ^^^ s) <<< 1 = (r <<< 1) ^^^ (s <<< 1) := by
    ext j hj; simp [BitVec.getElem_shiftLeft, Bool.and_xor_distrib_left]
  have hp : ∀ x y : BitVec 15, x ^^^ pecPoly ^^^ (y ^^^ pecPoly) = x ^^^ y := by
    intro x y; ext j hj; simp
    cases x[j] <;> cases y[j] <;> cases pecPoly[j] <;> rfl
  have hq : ∀ x y : BitVec 15, x ^^^ (y ^^^ pecPoly) = x ^^^ y ^^^ pecPoly := by
    intro x y; ext j hj; simp
  have hr : ∀ x y : BitVec 15, x ^^^ pecPoly ^^^ y = x ^^^ y ^^^ pecPoly := by
    intro x y; ext j hj; simp
    cases x[j] <;> cases y[j] <;> cases pecPoly[j] <;> rfl
  unfold pecBit
  rw [BitVec.getLsbD_xor, hx]
  cases a <;> cases b <;> cases r.getLsbD 14 <;> cases s.getLsbD 14 <;> simp [hp, hq, hr]

/-- The remainder loop over a byte is additive. -/
theorem pecByte_xor (r s : BitVec 15) (a b : Byte) : pecByte (r ^^^ s) (a ^^^ b) = pecByte r a ^^^ pecByte s b := by
  simp only [pecByte, List.foldl_cons, List.foldl_nil, BitVec.getLsbD_xor, pecBit_xor]

end Sys2Proof.Machine
end

