-- ==== Sys2Proof/Laws/PerInstr.lean ====
section
/-! SUPPORT. Statements made once per constructor of `Instr`: the OP byte of every request's word (30_encoding R114). -/

namespace Sys2Proof.Laws.OpOfEncoding

/-- The OP of a request, from the request opcode map (30_encoding R114). -/
def opcodeOf : Instr → BitVec 8
  | .pecCalc => 0x01
  | .sendCmd _ => 0x10
  | .writeCfg _ => 0x11
  | .readCfg _ => 0x12
  | .writeComm => 0x13
  | .readComm => 0x14
  | .wakeIdle => 0x20
  | .wakeSleep => 0x21
  | .setRefonA _ _ => 0x30
  | .setAdcoptA _ _ => 0x31
  | .setGpioA _ _ _ => 0x32
  | .setUvA _ _ => 0x33
  | .setOvA _ _ => 0x34
  | .setDccA _ _ _ => 0x35
  | .setDctoA _ _ => 0x36
  | .getCfgA _ _ _ _ => 0x37
  | .setRefonB _ _ => 0x38
  | .setAdcoptB _ _ => 0x39
  | .setGpioB _ _ _ => 0x3A
  | .setUvB _ _ => 0x3B
  | .setOvB _ _ => 0x3C
  | .setDccB _ _ _ => 0x3D
  | .setDctoB _ _ => 0x3E
  | .getCfgB _ _ _ _ => 0x3F
  | .setComm _ _ _ => 0x40
  | .getComm _ _ _ => 0x41
  | .readCellAll => 0x50
  | .readCellOne _ => 0x51
  | .readAuxAll => 0x52
  | .readAuxOne _ => 0x53
  | .readStatAll => 0x54
  | .readStatOne _ => 0x55
  | .getCell _ _ => 0x58
  | .getAux _ _ => 0x59
  | .getStat _ _ => 0x5A
  | .getPecFlag _ _ => 0x5B
  | .getCounter _ _ => 0x5C
  | .resetCounters => 0x5F
  | .startAdcv _ _ _ => 0x60
  | .startAdax _ _ => 0x61
  | .startAdstat _ _ => 0x62
  | .poll => 0x63

/-- The word of a request carries the request's OP. -/
def Statement (i : Instr) : Prop :=
  opOf (encode i) = opcodeOf i

theorem opOf_mkWord (op : BitVec 8) (chip : ChipField) (arg : BitVec 16) : opOf (mkWord op chip arg) = op := by
  ext j hj
  simp only [opOf, mkWord, BitVec.getElem_extractLsb', BitVec.getLsbD_append]
  simp [show ¬ 24 + j < 16 by omega, show ¬ 24 + j - 16 < 8 by omega, show 24 + j - 16 - 8 = j by omega, hj]

theorem pecCalc : Statement .pecCalc := opOf_mkWord ..

theorem sendCmd (c : CmdCode) : Statement (.sendCmd c) := opOf_mkWord ..

theorem writeCfg (r : CfgReg) : Statement (.writeCfg r) := opOf_mkWord ..

theorem readCfg (r : CfgReg) : Statement (.readCfg r) := opOf_mkWord ..

theorem writeComm : Statement .writeComm := opOf_mkWord ..

theorem readComm : Statement .readComm := opOf_mkWord ..

theorem wakeIdle : Statement .wakeIdle := opOf_mkWord ..

theorem wakeSleep : Statement .wakeSleep := opOf_mkWord ..

theorem setRefonA (chip : ChipField) (v : Bool) : Statement (.setRefonA chip v) := opOf_mkWord ..

theorem setAdcoptA (chip : ChipField) (v : Bool) : Statement (.setAdcoptA chip v) := opOf_mkWord ..

theorem setGpioA (chip : ChipField) (g : BitVec 3) (v : Bool) : Statement (.setGpioA chip g v) := opOf_mkWord ..

theorem setUvA (chip : ChipField) (t : U16) : Statement (.setUvA chip t) := opOf_mkWord ..

theorem setOvA (chip : ChipField) (t : U16) : Statement (.setOvA chip t) := opOf_mkWord ..

theorem setDccA (chip : ChipField) (c : BitVec 4) (v : Bool) : Statement (.setDccA chip c v) := opOf_mkWord ..

theorem setDctoA (chip : ChipField) (t : BitVec 4) : Statement (.setDctoA chip t) := opOf_mkWord ..

theorem getCfgA (chip : ChipField) (f : BitVec 4) (src : Copy) (x : BitVec 4) :
    Statement (.getCfgA chip f src x) := opOf_mkWord ..

theorem setRefonB (chip : ChipField) (v : Bool) : Statement (.setRefonB chip v) := opOf_mkWord ..

theorem setAdcoptB (chip : ChipField) (v : Bool) : Statement (.setAdcoptB chip v) := opOf_mkWord ..

theorem setGpioB (chip : ChipField) (g : BitVec 3) (v : Bool) : Statement (.setGpioB chip g v) := opOf_mkWord ..

theorem setUvB (chip : ChipField) (t : U16) : Statement (.setUvB chip t) := opOf_mkWord ..

theorem setOvB (chip : ChipField) (t : U16) : Statement (.setOvB chip t) := opOf_mkWord ..

theorem setDccB (chip : ChipField) (c : BitVec 4) (v : Bool) : Statement (.setDccB chip c v) := opOf_mkWord ..

theorem setDctoB (chip : ChipField) (t : BitVec 4) : Statement (.setDctoB chip t) := opOf_mkWord ..

theorem getCfgB (chip : ChipField) (f : BitVec 4) (src : Copy) (x : BitVec 4) :
    Statement (.getCfgB chip f src x) := opOf_mkWord ..

theorem setComm (chip : ChipField) (x : BitVec 3) (b : Byte) : Statement (.setComm chip x b) := opOf_mkWord ..

theorem getComm (chip : ChipField) (x : BitVec 3) (src : Copy) : Statement (.getComm chip x src) := opOf_mkWord ..

theorem readCellAll : Statement .readCellAll := opOf_mkWord ..

theorem readCellOne (k : BitVec 3) : Statement (.readCellOne k) := opOf_mkWord ..

theorem readAuxAll : Statement .readAuxAll := opOf_mkWord ..

theorem readAuxOne (k : BitVec 3) : Statement (.readAuxOne k) := opOf_mkWord ..

theorem readStatAll : Statement .readStatAll := opOf_mkWord ..

theorem readStatOne (k : BitVec 3) : Statement (.readStatOne k) := opOf_mkWord ..

theorem getCell (chip : ChipField) (slot : BitVec 5) : Statement (.getCell chip slot) := opOf_mkWord ..

theorem getAux (chip : ChipField) (slot : BitVec 4) : Statement (.getAux chip slot) := opOf_mkWord ..

theorem getStat (chip : ChipField) (f : BitVec 4) : Statement (.getStat chip f) := opOf_mkWord ..

theorem getPecFlag (chip : ChipField) (id : BitVec 4) : Statement (.getPecFlag chip id) := opOf_mkWord ..

theorem getCounter (chip : ChipField) (id : BitVec 4) : Statement (.getCounter chip id) := opOf_mkWord ..

theorem resetCounters : Statement .resetCounters := opOf_mkWord ..

theorem startAdcv (md : BitVec 2) (dcp : Bool) (ch : BitVec 3) : Statement (.startAdcv md dcp ch) := opOf_mkWord ..

theorem startAdax (md : BitVec 2) (chg : BitVec 3) : Statement (.startAdax md chg) := opOf_mkWord ..

theorem startAdstat (md : BitVec 2) (chst : BitVec 3) : Statement (.startAdstat md chst) := opOf_mkWord ..

theorem poll : Statement .poll := opOf_mkWord ..

end Sys2Proof.Laws.OpOfEncoding
end

