-- ==== Sys2Proof/Tests/Slice0.lean ====
section
/-! SUPPORT. Tests of the model: words written out from the encoding, an ill-formed term for each check, at most two
small behaviours per request with the values of the spec's worked examples and of 95_test_vectors, and a witness for
the hypotheses of every statement. -/

namespace Sys2Proof.Tests

open Sys2Proof.Machine

/-! ### Small states -/

/-- A chain of n chips, none reversed, right after reset and woken. -/
def chain (n : Nat) : State :=
  { State.resetWith { defaultCfg with n := n, rev := List.replicate n false } with link := .active }

/-- One woken chip with a given register model. -/
def oneChip (c : Chip) : State :=
  { chain 1 with chips := [c] }

/-- A chip whose transmit bytes of register A are given. -/
def chipTx (tx : Vector Byte 6) : Chip :=
  { Chip.zero with cfgA := { CfgGroup.zero with tx := tx } }

/-- The next state of a request. -/
def after (i : Instr) (s : State) : Option State :=
  match exec i s with
  | .next t => some t
  | .fault _ => none
  | .refused _ => none

/-- The next state of a step. -/
def stepped (s : State) : Option State :=
  match step s with
  | .next t => some t
  | .fault _ => none
  | .refused _ => none

/-- The result of a request. -/
def result (i : Instr) (s : State) : Option Result :=
  (after i s).bind fun t => t.results.getLast?

/-- A field of chip j after a request. -/
def chipAfter {α : Type} (f : Chip → α) (j : Nat) (i : Instr) (s : State) : Option α :=
  (after i s).map fun t => f (chipOf t j)

/-- The bus events a request appends. -/
def events (i : Instr) (s : State) : Option (List Event) :=
  (after i s).map fun t => t.trace

/-- Result of a request that ended OK. -/
def okWith (val : Nat) : Option Result :=
  some ⟨.ok, val, []⟩

/-! ### Decoding: one word per request, from the opcode map and the examples of 30_encoding R114 and R118 -/

theorem test_decode_pecCalc : decode 0x01000000 = .ok .pecCalc := by decide

theorem test_decode_sendCmd : decode 0x10000711 = .ok (.sendCmd 0x711) := by decide

theorem test_decode_writeCfg : decode 0x11000001 = .ok (.writeCfg .b) := by decide

theorem test_decode_readCfg : decode 0x12000000 = .ok (.readCfg .a) := by decide

theorem test_decode_writeComm : decode 0x13000000 = .ok .writeComm := by decide

theorem test_decode_readComm : decode 0x14000000 = .ok .readComm := by decide

theorem test_decode_wakeIdle : decode 0x20000000 = .ok .wakeIdle := by decide

theorem test_decode_wakeSleep : decode 0x21000000 = .ok .wakeSleep := by decide

theorem test_decode_setRefonA : decode 0x30020001 = .ok (.setRefonA 2 true) := by decide

theorem test_decode_setAdcoptA : decode 0x31FF0000 = .ok (.setAdcoptA 255 false) := by decide

theorem test_decode_setGpioA : decode 0x32000104 = .ok (.setGpioA 0 4 true) := by decide

theorem test_decode_setUvA : decode 0x33007530 = .ok (.setUvA 0 30000) := by decide

theorem test_decode_setOvA : decode 0x3400A028 = .ok (.setOvA 0 41000) := by decide

theorem test_decode_setDccA : decode 0x3503000B = .ok (.setDccA 3 11 false) := by decide

theorem test_decode_setDctoA : decode 0x36000002 = .ok (.setDctoA 0 2) := by decide

theorem test_decode_getCfgA : decode 0x37000689 = .ok (.getCfgA 0 9 .rx 6) := by decide

theorem test_decode_setRefonB : decode 0x38020000 = .ok (.setRefonB 2 false) := by decide

theorem test_decode_setAdcoptB : decode 0x39010001 = .ok (.setAdcoptB 1 true) := by decide

theorem test_decode_setGpioB : decode 0x3A000003 = .ok (.setGpioB 0 3 false) := by decide

theorem test_decode_setUvB : decode 0x3B050010 = .ok (.setUvB 5 16) := by decide

theorem test_decode_setOvB : decode 0x3C00FFFF = .ok (.setOvB 0 65535) := by decide

theorem test_decode_setDccB : decode 0x3D01010B = .ok (.setDccB 1 11 true) := by decide

theorem test_decode_setDctoB : decode 0x3E07000F = .ok (.setDctoB 7 15) := by decide

theorem test_decode_getCfgB : decode 0x3F000407 = .ok (.getCfgB 0 7 .tx 4) := by decide

theorem test_decode_setComm : decode 0x400005A5 = .ok (.setComm 0 5 0xA5) := by decide

theorem test_decode_getComm : decode 0x41001700 = .ok (.getComm 0 7 .rx) := by decide

theorem test_decode_readCellAll : decode 0x50000000 = .ok .readCellAll := by decide

theorem test_decode_readCellOne : decode 0x51000005 = .ok (.readCellOne 5) := by decide

theorem test_decode_readAuxAll : decode 0x52000000 = .ok .readAuxAll := by decide

theorem test_decode_readAuxOne : decode 0x53000003 = .ok (.readAuxOne 3) := by decide

theorem test_decode_readStatAll : decode 0x54000000 = .ok .readStatAll := by decide

theorem test_decode_readStatOne : decode 0x55000001 = .ok (.readStatOne 1) := by decide

theorem test_decode_getCell : decode 0x58020011 = .ok (.getCell 2 17) := by decide

theorem test_decode_getAux : decode 0x5901000B = .ok (.getAux 1 11) := by decide

theorem test_decode_getStat : decode 0x5A000008 = .ok (.getStat 0 8) := by decide

theorem test_decode_getPecFlag : decode 0x5B00000D = .ok (.getPecFlag 0 13) := by decide

theorem test_decode_getCounter : decode 0x5C010003 = .ok (.getCounter 1 3) := by decide

theorem test_decode_resetCounters : decode 0x5F000000 = .ok .resetCounters := by decide

theorem test_decode_startAdcv : decode 0x60000066 = .ok (.startAdcv 2 true 6) := by decide

theorem test_decode_startAdax : decode 0x61000061 = .ok (.startAdax 1 6) := by decide

theorem test_decode_startAdstat : decode 0x62000043 = .ok (.startAdstat 3 4) := by decide

theorem test_decode_poll : decode 0x63000000 = .ok .poll := by decide

/-- The all-zero word is no request (30_encoding R116 (e)); bit 11 of SEND_CMD is reserved (V-FB-1). -/
theorem test_decode_rejects : decode 0x00000000 = .error (.illegalOp 0) ∧ decode 0xFF000000 = .error (.illegalOp 255) ∧
    decode 0x10000800 = .error .reservedBits ∧ decode 0x01000001 = .error .reservedBits ∧
    decode 0x61000004 = .error .reservedBits ∧ decode 0x20010000 = .error .reservedBits := by decide

theorem test_decodeTableWord : decodeTableWord 32 0x3D01010B = some (.setDccB 1 11 true) ∧
    decodeTableWord 32 0x00000001 = none := by decide

/-! ### Well-formedness: an ill-formed term for each check, which the check refuses -/

theorem test_wellFormed_chip : wellFormed defaultCfg (.setRefonA 1 true) = false ∧
    wellFormed defaultCfg (.setAdcoptB 255 true) = false ∧ wellFormed defaultCfg (.setOvA 1 0) = false ∧
    wellFormed defaultCfg (.setDctoB 1 0) = false ∧ wellFormed defaultCfg (.setRefonA 0 true) = true := by decide

theorem test_wellFormed_setters : wellFormed defaultCfg (.setGpioA 0 5 true) = false ∧
    wellFormed defaultCfg (.setGpioB 0 4 true) = true ∧ wellFormed defaultCfg (.setUvA 0 15) = false ∧
    wellFormed defaultCfg (.setUvB 0 16) = true ∧ wellFormed defaultCfg (.setDccA 0 12 true) = false ∧
    wellFormed defaultCfg (.setDccB 0 11 true) = true ∧ wellFormed defaultCfg (.setComm 0 6 0) = false := by decide

theorem test_wellFormed_getCfg : wellFormed defaultCfg (.getCfgA 0 10 .tx 0) = false ∧
    wellFormed defaultCfg (.getCfgA 0 2 .tx 5) = false ∧ wellFormed defaultCfg (.getCfgB 0 7 .rx 12) = false ∧
    wellFormed defaultCfg (.getCfgA 0 9 .tx 6) = false ∧ wellFormed defaultCfg (.getCfgA 0 9 .rx 8) = false ∧
    wellFormed defaultCfg (.getCfgA 0 0 .tx 1) = false ∧ wellFormed defaultCfg (.getCfgA 0 9 .rx 7) = true := by decide

theorem test_wellFormed_getComm : wellFormed defaultCfg (.getComm 0 6 .tx) = false ∧
    wellFormed defaultCfg (.getComm 0 7 .rx) = true := by decide

theorem test_wellFormed_reads : wellFormed defaultCfg (.readCellOne 6) = false ∧
    wellFormed defaultCfg (.readAuxOne 4) = false ∧ wellFormed defaultCfg (.readStatOne 2) = false ∧
    wellFormed defaultCfg (.readCellOne 5) = true := by decide

theorem test_wellFormed_getters : wellFormed defaultCfg (.getCell 0 18) = false ∧
    wellFormed defaultCfg (.getAux 0 12) = false ∧ wellFormed defaultCfg (.getStat 0 9) = false ∧
    wellFormed defaultCfg (.getPecFlag 0 14) = false ∧ wellFormed defaultCfg (.getCounter 0 14) = false := by decide

theorem test_wellFormed_starts : wellFormed defaultCfg (.startAdcv 0 false 7) = false ∧
    wellFormed defaultCfg (.startAdax 0 7) = false ∧ wellFormed defaultCfg (.startAdstat 0 5) = false := by decide

theorem test_payloadAllowed : payloadAllowed defaultCfg [0] .wakeIdle = false ∧
    payloadAllowed { defaultCfg with pecMaxLen := 1 } [0, 0] .pecCalc = false ∧
    payloadAllowed { defaultCfg with pecMaxLen := 1 } [0] .pecCalc = true := by decide

theorem test_rejection : rejection defaultCfg [] (.setUvA 5 30000) = some 2 ∧
    rejection defaultCfg [] (.setUvA 5 0) = some 2 ∧ rejection defaultCfg [0] (.setUvA 0 0) = some 3 ∧
    rejection defaultCfg [0] .wakeIdle = some 4 ∧ rejection defaultCfg [] .wakeIdle = none := by decide

/-- Each condition of 00_scope R9, violated alone. -/
theorem test_configWellFormed : configWellFormed defaultCfg = true ∧
    configWellFormed { defaultCfg with n := 0, rev := [] } = false ∧
    configWellFormed { defaultCfg with rev := [] } = false ∧
    configWellFormed { defaultCfg with n := 4, rev := [true, false, false, false] } = false ∧
    configWellFormed { defaultCfg with n := 4, rev := [true, false, false, true] } = true ∧
    configWellFormed { defaultCfg with cellSubregs := 7 } = false ∧
    configWellFormed { defaultCfg with auxSubregs := 5 } = false ∧
    configWellFormed { defaultCfg with statSubregs := 0 } = false ∧
    configWellFormed { defaultCfg with fSck := 0 } = false ∧
    configWellFormed { defaultCfg with pollMax := 0 } = false ∧
    configWellFormed { defaultCfg with cntW := 0 } = false := by decide

/-! ### Reset and fetching -/

theorem test_reset_boundaryInv : boundaryInv State.reset = true := by decide

/-- A step from reset runs the word that withFetchWord puts there. -/
theorem test_fetched_word_runs :
    (stepped (State.reset.withFetchWord 32 0x58000011)).map (fun t => t.results) = some [⟨.ok, 0, []⟩] := by decide

theorem test_fetched_illegal_word :
    (stepped (State.reset.withFetchWord 32 0x64000000)).map (fun t => t.results) =
      some [⟨.illegalRequest, 0x64, []⟩] := by decide

/-! ### The PEC generator (V-PEC-1 to V-PEC-3) -/

theorem test_pecCalc : result .pecCalc { chain 1 with payload := [0x00, 0x01] } = okWith 0x3D6E := by decide +kernel

theorem test_pecCalc_empty_and_code : pec16 [] = 0x0020 ∧ pec16 [0x07, 0xFF] = 0x18F6 ∧
    pec16 [0x04, 0x52, 0x27, 0xA0, 0x00, 0x00] = 0x3D0A := by decide +kernel

theorem test_pecFlops : (pecFlopsRun [0x00, 0x01]).toList =
    (List.range 15).map fun j => (0x1EB7 : BitVec 15).getLsbD j := by decide +kernel

/-! ### The frame builder (V-FB-1 to V-FB-5) -/

theorem test_sendCmd : events (.sendCmd 0x711) (chain 1) = some [.tx [0x07, 0x11, 0xC9, 0xC0] .reliable] := by decide +kernel

theorem test_writeCfg : events (.writeCfg .a) (oneChip (chipTx #v[0x04, 0x52, 0x27, 0xA0, 0x00, 0x00])) =
    some [.tx [0x00, 0x01, 0x3D, 0x6E, 0x04, 0x52, 0x27, 0xA0, 0x00, 0x00, 0x3D, 0x0A] .reliable] := by decide +kernel

/-- V-FB-5, the row [T, F, F, T]: the first byte of each block. -/
theorem test_writeCfg_reversed :
    (((writeFrame { defaultCfg with n := 4, rev := [true, false, false, true] } 0x001 fun i =>
      List.replicate 6 (BitVec.ofNat 8 (16 * (i + 1)))).drop 4).map fun b => b.toNat) =
      List.replicate 6 0x10 ++ [0x8D, 0xA4] ++ List.replicate 6 0x30 ++ [0x12, 0xC8] ++ List.replicate 6 0x20 ++
        [0x5D, 0x7E] ++ List.replicate 6 0x40 ++ [0x77, 0xF8] := by decide +kernel

theorem test_writeComm : events .writeComm
    { chain 2 with chips := [{ Chip.zero with commTx := #v[1, 2, 3, 4, 5, 6] }, Chip.zero] } =
    some [.tx [0x07, 0x21, 0x24, 0xB2, 0, 0, 0, 0, 0, 0, 0xC2, 0x12, 1, 2, 3, 4, 5, 6, 0x22, 0xEE] .reliable] := by decide +kernel

theorem test_readCfg : chipAfter (fun c => (c.cfgA.pecErr, c.cnt[0], c.cnt[1], c.cfgA.rx.toList)) 0 (.readCfg .a)
    { chain 1 with answers := [[0x04, 0x52, 0x27, 0xA1, 0x00, 0x00, 0x3D, 0x0A]] } =
    some (true, 1, 1, [0x04, 0x52, 0x27, 0xA1, 0x00, 0x00, 0x3D, 0x0A]) := by decide +kernel

theorem test_readCfg_result : result (.readCfg .b)
    { chain 1 with answers := [[0x04, 0x52, 0x27, 0xA0, 0x00, 0x00, 0x3D, 0x0A]] } = okWith 0 := by decide +kernel

theorem test_readComm : chipAfter (fun c => (c.commRx.toList, c.cnt[0])) 0 .readComm
    { chain 1 with answers := [[1, 2, 3, 4, 5, 6, 0x22, 0xEF]] } = some ([1, 2, 3, 4, 5, 6, 0x22, 0xEF], 0) := by decide

theorem test_readComm_shape : result .readComm { chain 1 with answers := [[1, 2]] } =
    some ⟨.shapeError, 0, []⟩ := by decide

/-! ### The link sequencer (worked examples of 42_link_sequencer R206, R207) -/

theorem test_wakeIdle : events .wakeIdle { chain 3 with link := .idle, answers := [[0xA0], [0xA1], [0xA2]] } =
    some [.fill 1 [0xA0] .unreliable, .fill 1 [0xA1] .unreliable, .fill 1 [0xA2] .unreliable] := by decide

theorem test_wakeIdle_link : (after .wakeIdle { chain 1 with link := .idle }).map (fun t => t.link) = some .active ∧
    (after .wakeIdle { chain 1 with link := .sleep }).map (fun t => t.link) = some .sleep := by decide

theorem test_wakeSleep : (events .wakeSleep { chain 2 with link := .sleep }).map (fun es => es.map fun
    | .fill n _ rel => (n, some rel)
    | .delay us => (us, none)
    | .tx _ _ => (0, none)
    | .txrx _ _ _ _ => (0, none)) =
    some [(38, some .unreliable), (10, none), (38, some .unreliable), (10, none)] := by decide

theorem test_wakeSleep_link : (after .wakeSleep { chain 1 with link := .sleep }).map (fun t => t.link) =
    some .active := by decide

/-! ### The register codec (worked examples of 43_register_codec) -/

theorem test_setRefonA : chipAfter (fun c => cfgTx .a 0 c) 0 (.setRefonA 0 true)
    (oneChip (chipTx #v[0xF8, 0, 0, 0, 0, 0])) = some 0xFC := by decide

theorem test_setAdcoptA : chipAfter (fun c => cfgTx .a 0 c) 0 (.setAdcoptA 0 true)
    (oneChip (chipTx #v[0x04, 0, 0, 0, 0, 0])) = some 0x05 := by decide

theorem test_setGpioA : chipAfter (fun c => cfgTx .a 0 c) 0 (.setGpioA 0 4 true)
    (oneChip (chipTx #v[0x04, 0, 0, 0, 0, 0])) = some 0x84 := by decide

theorem test_setUvA : chipAfter (fun c => c.cfgA.tx.toList) 0 (.setUvA 0 30000) (chain 1) =
    some [0, 0x52, 0x07, 0, 0, 0] ∧ result (.setUvA 0 30000) (chain 1) = okWith 0x752 := by decide

theorem test_setOvA : chipAfter (fun c => c.cfgA.tx.toList) 0 (.setOvA 0 41000)
    (oneChip (chipTx #v[0, 0x52, 0x07, 0, 0, 0])) = some [0, 0x52, 0x27, 0xA0, 0, 0] ∧
    result (.setOvA 0 41000) (chain 1) = okWith 0xA02 := by decide

theorem test_setDccA : chipAfter (fun c => cfgTx .a 5 c) 0 (.setDccA 0 11 true)
    (oneChip (chipTx #v[0, 0, 0, 0, 0, 0x50])) = some 0x58 := by decide

theorem test_setDctoA : chipAfter (fun c => cfgTx .a 5 c) 0 (.setDctoA 0 5)
    (oneChip (chipTx #v[0, 0, 0, 0, 0, 0x08])) = some 0x58 := by decide

theorem test_getCfgA : result (.getCfgA 0 6 .tx 0) (oneChip (chipTx #v[0, 0x52, 0x27, 0xA0, 0, 0])) = okWith 40992 ∧
    result (.getCfgA 0 5 .tx 0) (oneChip (chipTx #v[0, 0x52, 0x27, 0xA0, 0, 0])) = okWith 30000 := by decide

/-- The requests of register B write register B alone (30_encoding R105). -/
theorem test_setters_of_B :
    chipAfter (fun c => (cfgTx .b 0 c, cfgTx .a 0 c)) 0 (.setRefonB 0 true) (chain 1) = some (0x04, 0) ∧
    chipAfter (fun c => (cfgTx .b 0 c, cfgTx .a 0 c)) 0 (.setAdcoptB 0 true) (chain 1) = some (0x01, 0) ∧
    chipAfter (fun c => (cfgTx .b 0 c, cfgTx .a 0 c)) 0 (.setGpioB 0 0 true) (chain 1) = some (0x08, 0) ∧
    chipAfter (fun c => (cfgTx .b 4 c, cfgTx .a 4 c)) 0 (.setDccB 0 7 true) (chain 1) = some (0x80, 0) ∧
    chipAfter (fun c => (cfgTx .b 5 c, cfgTx .a 5 c)) 0 (.setDctoB 0 15) (chain 1) = some (0xF0, 0) := by decide

theorem test_thresholds_of_B :
    chipAfter (fun c => (c.cfgB.tx.toList, c.cfgA.tx.toList)) 0 (.setUvB 0 30000) (chain 1) =
      some ([0, 0x52, 0x07, 0, 0, 0], [0, 0, 0, 0, 0, 0]) ∧
    chipAfter (fun c => (c.cfgB.tx.toList, c.cfgA.tx.toList)) 0 (.setOvB 0 41000) (chain 1) =
      some ([0, 0, 0x20, 0xA0, 0, 0], [0, 0, 0, 0, 0, 0]) := by decide

theorem test_getCfgB : result (.getCfgB 0 9 .rx 7)
    (oneChip { Chip.zero with cfgB := { CfgGroup.zero with rx := #v[1, 2, 3, 4, 5, 6, 7, 8] } }) = okWith 8 := by decide

theorem test_setComm : chipAfter (fun c => c.commTx.toList) 0 (.setComm 0 5 0xA5) (chain 1) =
    some [0, 0, 0, 0, 0, 0xA5] := by decide

theorem test_getComm : result (.getComm 0 7 .rx)
    (oneChip { Chip.zero with commRx := #v[1, 2, 3, 4, 5, 6, 0x22, 0xEE] }) = okWith 0xEE := by decide

theorem test_setter_checks : result (.setUvA 5 30000) (chain 3) = some ⟨.invalidParam, 2, []⟩ ∧
    result (.setUvA 0 15) (chain 3) = some ⟨.invalidParam, 3, []⟩ ∧
    result (.setUvA 0 16) { chain 3 with payload := [0] } = some ⟨.invalidParam, 4, []⟩ := by decide

/-! ### The measurement parser (worked examples of 44_measurement_parser) -/

/-- The two-chip response of the example of READ_CELL_ONE: chip 1's block mismatches. -/
def cellResponse : List Byte :=
  [0xA0, 0x8C, 0xAA, 0x8C, 0x96, 0x8C, 0x51, 0x26, 0x00, 0x80, 0xFE, 0x7F, 0xFF, 0xFF, 0x78, 0x76]

theorem test_readCellOne : result (.readCellOne 0) { chain 2 with answers := [cellResponse] } =
    some ⟨.pecMismatch, 1, [(1, 2)]⟩ := by decide +kernel

theorem test_readCellOne_chip : chipAfter (fun c => (c.cellCodes.toList.take 4, c.cellPec[0], c.cnt.toList.take 4)) 1
    (.readCellOne 0) { chain 2 with answers := [cellResponse] } =
    some ([0x8000, 0x7FFE, 0xFFFF, 0], true, [1, 0, 1, 0]) := by decide +kernel

theorem test_readCellAll : chipAfter (fun c => c.cellCodes.toList.take 7) 0 .readCellAll
    { State.resetWith { defaultCfg with cellSubregs := 2 } with
      answers := [[1, 0, 2, 0, 3, 0, 0x96, 0x4C], [4, 0, 5, 0, 6, 0, 0xDE, 0x8E]] } =
    some [1, 2, 3, 4, 5, 6, 0] := by decide +kernel

theorem test_readCellAll_shape : result .readCellAll
    { chain 1 with answers := [[1, 0, 2, 0, 3, 0, 0, 0], [4, 0]] } = some ⟨.shapeError, 1, [(0, 2)]⟩ := by decide +kernel

theorem test_readAuxAll : chipAfter (fun c => c.auxCodes.toList.take 4) 0 .readAuxAll
    { State.resetWith { defaultCfg with auxSubregs := 1 } with answers := [[0x98, 0x3A, 0x20, 0x4E, 0x30, 0x75, 0x03, 0x28]] } =
    some [15000, 20000, 30000, 0] := by decide +kernel

theorem test_readAuxOne : result (.readAuxOne 0) { chain 1 with answers := [List.replicate 8 0] } =
    some ⟨.pecMismatch, 1, [(0, 8)]⟩ := by decide +kernel

theorem test_readAuxOne_chip : chipAfter (fun c => (c.auxPec[3], c.cnt[0], c.cnt[11])) 0 (.readAuxOne 3)
    { chain 1 with answers := [List.replicate 8 0] } = some (true, 1, 1) := by decide +kernel

theorem test_readStatAll : chipAfter (fun c => (c.statCodes.toList, c.statFlags.toList, c.statThsd, c.statMuxFail)) 0
    .readStatAll { chain 1 with answers := [[0x34, 0x12, 0x78, 0x56, 0xBC, 0x9A, 0x0F, 0xA4],
      [0x40, 0x1F, 0x55, 0xAA, 0x0F, 0x32, 0x77, 0x3C]] } =
    some ([0x1234, 0x5678, 0x9ABC, 0x1F40], [0x55, 0xAA, 0x0F], false, true) := by decide +kernel

theorem test_readStatOne : chipAfter (fun c => (c.statCodes[3], c.statFlags.toList, c.statThsd, c.statMuxFail, c.statPec[1]))
    0 (.readStatOne 1) { chain 1 with answers := [[0x40, 0x1F, 0x00, 0x00, 0x00, 0x03, 0x89, 0x3C]] } =
    some (0x1F40, [0, 0, 0], true, true, false) := by decide +kernel

theorem test_getCell : result (.getCell 0 17) (oneChip { Chip.zero with cellCodes := Vector.ofFn fun j => BitVec.ofNat 16 (100 + j.val) }) =
    okWith 117 := by decide

theorem test_getAux : result (.getAux 0 2) (oneChip { Chip.zero with auxCodes := Vector.ofFn fun j => BitVec.ofNat 16 (10000 * (j.val + 1)) }) =
    okWith 30000 := by decide

theorem test_getStat : result (.getStat 0 5) (oneChip { Chip.zero with statFlags := #v[0x55, 0xAA, 0x0F] }) = okWith 0xAA ∧
    result (.getStat 0 7) (oneChip { Chip.zero with statMuxFail := true }) = okWith 1 ∧
    result (.getStat 0 8) (oneChip { Chip.zero with statMuxFail := true }) = okWith 0 := by decide

theorem test_getPecFlag : result (.getPecFlag 0 11) (oneChip { Chip.zero with auxPec := #v[false, false, false, true] }) =
    okWith 1 ∧ result (.getPecFlag 0 12) (oneChip { Chip.zero with statPec := #v[false, true] }) = okWith 0 := by decide

theorem test_getCounter : result (.getCounter 0 13) (oneChip { Chip.zero with cnt := Vector.ofFn fun j => j.val }) =
    okWith 13 := by decide

theorem test_resetCounters : chipAfter (fun c => (c.cnt.toList, c.cellPec[0])) 0 .resetCounters
    (oneChip { Chip.zero with cnt := Vector.replicate 14 3, cellPec := Vector.replicate 6 true }) =
    some (List.replicate 14 0, true) := by decide

/-- A saturated counter stays (44_measurement_parser R268). -/
theorem test_saturation : satInc 32 4294967295 = 4294967295 ∧ satInc 32 4294967294 = 4294967295 := by decide

/-! ### The conversion controller (worked examples of 45_conversion) -/

theorem test_startAdcv : events (.startAdcv 2 true 6) (chain 1) = some [.tx [0x03, 0x76, 0x83, 0x8A] .reliable] ∧
    result (.startAdcv 2 false 0) (chain 1) = okWith 0x360 := by decide +kernel

theorem test_startAdax : events (.startAdax 2 6) (chain 1) = some [.tx [0x05, 0x66, 0xFF, 0x68] .reliable] ∧
    result (.startAdax 2 0) (chain 1) = okWith 0x560 := by decide +kernel

theorem test_startAdstat : events (.startAdstat 1 1) (chain 1) = some [.tx [0x04, 0xE9, 0x7C, 0xF6] .reliable] ∧
    result (.startAdstat 0 5) (chain 1) = some ⟨.invalidParam, 3, []⟩ := by decide +kernel

theorem test_poll : result .poll { chain 1 with answers := [[0], [0], [0], [0xFF]] } = some ⟨.convDone, 4, []⟩ := by decide

theorem test_poll_timeout : events .poll
    { State.resetWith { defaultCfg with pollMax := 2 } with answers := [[0], [0], [0xFF]] } =
    some [.tx [0x07, 0x14, 0xF3, 0x6C] .unreliable, .fill 1 [0] .unreliable, .fill 1 [0] .unreliable] := by decide +kernel

/-! ### Terms of the statements -/

/-- The read codes of every sub-register under the default table (30_encoding R112). -/
theorem test_subregCode :
    (List.range 6).map (subregCode defaultCmdTable .cell) = [0x004, 0x006, 0x008, 0x00A, 0x009, 0x00B] ∧
    (List.range 4).map (subregCode defaultCmdTable .aux) = [0x00C, 0x00E, 0x00D, 0x00F] ∧
    (List.range 2).map (subregCode defaultCmdTable .stat) = [0x010, 0x012] := by decide

theorem test_bytesOut : bytesOut defaultCfg (.fill 3 [0, 0, 0] .reliable) = [0xFF, 0xFF, 0xFF] := by decide

theorem test_eraseMark : eraseMark (.tx [1] .reliable) = eraseMark (.tx [1] .unreliable) ∧
    eraseMark (.tx [1] .reliable) ≠ eraseMark (.tx [2] .reliable) := by decide

/-! ### Witnesses: a concrete state and operands that meet the hypotheses of each statement, each clause at a boundary -/

/-- A state with one pending request. -/
def pending (w : RequestWord) (payload : List Byte) : State :=
  { chain 1 with requests := [⟨w, payload⟩], gaps := [0] }

/-- One chip and an answer of the right length that matches no PEC. -/
def answered : State :=
  { chain 1 with answers := List.replicate 6 (List.replicate 8 0) }

/-- One chip and an answer of the wrong length. -/
def shortAnswered : State :=
  { chain 1 with answers := [[0]] }

theorem test_witness_EncodeInvertsDecode : decode 0x37000689 = .ok (.getCfgA 0 9 .rx 6) := by decide

theorem test_witness_WordAcceptedIffItMatchesItsTableRow : opcodeRows.lookup (opOf 0x64000000).toNat = none ∧
    opcodeRows.lookup (opOf 0x60000066).toNat = some 0xFFFFFF88 ∧ wordMatches 0x60000066 0xFFFFFF88 ∧
    ¬ wordMatches 0x60000008 0xFFFFFF88 := by unfold wordMatches; decide

theorem test_witness_StepRunsTheDecodedRequest : configWellFormed (chain 1).cfg = true ∧ (chain 1).requests = [] ∧
    configWellFormed (pending 0x58000000 []).cfg = true ∧ (pending 0x58000000 []).requests = [⟨0x58000000, []⟩] ∧
    decode 0x58000000 = .ok (.getCell 0 0) := by decide

/-- Both ends of every range of unassigned OP values. -/
theorem test_witness_UnassignedOpGivesIllegalRequest : configWellFormed (pending 0 []).cfg = true ∧
    ∀ op ∈ [0, 0x02, 0x0F, 0x15, 0x1F, 0x22, 0x2F, 0x42, 0x4F, 0x56, 0x57, 0x5D, 0x5E, 0x64, 0xFF],
      (opOf (BitVec.ofNat 32 (op * 2 ^ 24))).toNat = op ∧
      (stepped (pending (BitVec.ofNat 32 (op * 2 ^ 24)) [])).map (fun t => t.results) =
        some [⟨.illegalRequest, op, []⟩] := by decide

theorem test_witness_InvalidParamNamesTheFirstFailingCheck : configWellFormed (pending 0x33010000 []).cfg = true ∧
    (pending 0x33010000 []).requests = [⟨0x33010000, []⟩] ∧
    opcodeRows.lookup (opOf 0x20010000).toNat = some 0xFFFFFFFF ∧ ¬ wordMatches 0x20010000 0xFFFFFFFF ∧
    opcodeRows.lookup (opOf 0x33010000).toNat = some 0xFF000000 ∧ wordMatches 0x33010000 0xFF000000 ∧
    rejection (chain 1).cfg [] (.setUvA 1 0) = some 2 ∧ rejection (chain 1).cfg [] (.setUvA 0 15) = some 3 ∧
    rejection (chain 1).cfg [0] (.setUvA 0 16) = some 4 := by unfold wordMatches; decide

theorem test_witness_AcceptedRequestIsNotInvalidParam :
    rejection (chain 1).cfg (chain 1).payload (.setUvA 0 16) = none := by decide

theorem test_witness_IllFormedConfigRunsNothing :
    configWellFormed { defaultCfg with n := 257, rev := List.replicate 257 false } = false ∧
    configWellFormed { defaultCfg with n := 1, rev := [true] } = true := by decide

theorem test_witness_EveryStepContinues : configWellFormed (pending 0x63000000 []).cfg = true ∧
    (pending 0x63000000 []).requests ≠ [] := by decide

theorem test_witness_RequestEndsWithAListedStatus : ∃ t, exec .readCellAll answered = .next t := ⟨_, rfl⟩

/-- The clauses of the statement: a rejected request, CONV_DONE and CONV_TIMEOUT. -/
theorem test_witness_RequestEmitsBoundedEvents : result .wakeIdle { chain 1 with payload := [0] } =
    some ⟨.invalidParam, 4, []⟩ ∧ result .poll { chain 1 with answers := [[1]] } = some ⟨.convDone, 1, []⟩ ∧
    result .poll { State.resetWith { defaultCfg with pollMax := 1 } with answers := [[0]] } =
      some ⟨.convTimeout, 0, []⟩ := by decide

theorem test_witness_OnlyWakesChangeTheLink : isWake (.sendCmd 0) = false ∧ ∃ t, exec (.sendCmd 0) (chain 1) = .next t :=
  ⟨by decide, _, rfl⟩

theorem test_witness_EventMarksFollowTheLink : events (.sendCmd 0) { chain 1 with link := .idle } =
    some [.tx [0x00, 0x00, 0xB6, 0x5C] .unreliable] := by decide +kernel

theorem test_witness_LinkIsNeverRead : ∃ t, exec .poll { chain 1 with answers := [[1]] } = .next t := ⟨_, rfl⟩

theorem test_witness_FieldsHaveOnlyTheirListedWriters : writes .cnt .readComm = false ∧
    writes (.cfgRx .a) (.readCfg .b) = false ∧ ∃ t, exec .readComm answered = .next t := ⟨by decide, by decide, _, rfl⟩

theorem test_witness_ConfigurationIsConstant : ∃ t, exec .readAuxAll answered = .next t := ⟨_, rfl⟩

theorem test_witness_StepKeepsTheBoundaryInvariant : boundaryInv (pending 0x5C00000D []) = true ∧
    (stepped (pending 0x5C00000D [])).isSome = true := by decide

theorem test_witness_CountersNeverDecreaseBetweenResets :
    (∃ t, Host.Core.run Sys2Proof.core 1 { pending 0x5C00000D [] with requests := [⟨0x5C00000D, []⟩] } = .next t) ∧
    decode 0x5C00000D ≠ .ok .resetCounters := ⟨⟨_, rfl⟩, by decide⟩

theorem test_witness_ResetValues : Chip.zero ∈ (State.resetWith defaultCfg).chips := by decide

theorem test_witness_FlipFlopFormComputesTheSameRemainder : (14 : Nat) < 15 := by decide

theorem test_witness_OddOrStuckPecMismatches : (0xFF : Byte).getLsbD 0 = true := by decide

theorem test_witness_SingleByteErrorIsDetected : (List.replicate 6 (0 : Byte)).length = 6 ∧ (5 : Nat) < 6 ∧
    (0x80 : Byte) ≠ 0 := by decide

/-- A payload of exactly PEC_MAX_LEN bytes, and of one more. -/
theorem test_witness_PecCalcAnswersThePec :
    result .pecCalc { State.resetWith { defaultCfg with pecMaxLen := 2 } with payload := [0, 1] } = okWith 0x3D6E ∧
    result .pecCalc { State.resetWith { defaultCfg with pecMaxLen := 2 } with payload := [0, 1, 2] } =
      some ⟨.invalidParam, 4, []⟩ := by decide +kernel

theorem test_witness_PositionMapIsAnInvolution :
    configWellFormed { defaultCfg with n := 3, rev := [false, true, false] } = true ∧
    configWellFormed { defaultCfg with n := 2, rev := [true, true] } = true ∧
    configWellFormed { defaultCfg with n := 2, rev := [false, false] } = true := by decide

theorem test_witness_WriteFrameHoldsEachChipAtItsOffset :
    configWellFormed { defaultCfg with n := 4, rev := [true, false, false, true] } = true ∧
    ∀ i : Nat, (List.replicate 6 (BitVec.ofNat 8 i)).length = 6 := ⟨by decide, fun _ => rfl⟩

theorem test_witness_TransmittingRequestsSendTheirFrame : (chain 1).payload = [] := by decide

theorem test_witness_ReadCfgStoresEveryBlock : answered.payload = [] ∧ answered.chips.length = answered.cfg.n ∧
    (responseOf answered).length = 8 * answered.cfg.n ∧ configWellFormed answered.cfg = true := by decide

theorem test_witness_ReadCommStoresEveryBlock : answered.payload = [] ∧ answered.chips.length = answered.cfg.n ∧
    (responseOf answered).length = 8 * answered.cfg.n ∧ 0 < answered.cfg.n := by decide

/-- Every form of the statement, with the last sub-register of each kind. -/
theorem test_witness_ShapeErrorStoresNothing : shortAnswered.payload = [] ∧
    (responseOf shortAnswered).length ≠ 8 * shortAnswered.cfg.n ∧
    (∃ kind b, Instr.readCellOne 5 = readOneOf kind b ∧ b.toNat < subregs shortAnswered.cfg kind) ∧
    (∃ kind b, Instr.readAuxOne 3 = readOneOf kind b ∧ b.toNat < subregs shortAnswered.cfg kind) ∧
    ∃ kind b, Instr.readStatOne 1 = readOneOf kind b ∧ b.toNat < subregs shortAnswered.cfg kind :=
  ⟨by decide, by decide, ⟨.cell, 5, by decide⟩, ⟨.aux, 3, by decide⟩, ⟨.stat, 1, by decide⟩⟩

theorem test_witness_WrittenConfigurationReadsBack : configWellFormed (chain 2).cfg = true ∧ (chain 2).payload = [] ∧
    (chain 2).chips.length = (chain 2).cfg.n ∧ 1 < (chain 2).cfg.n := by decide

theorem test_witness_WakeIdleFillsOncePerChip : (chain 3).payload = [] ∧ (chain 3).cfg.n = 3 := by decide

theorem test_witness_WakeSleepBurstsOncePerChip : (chain 2).payload = [] ∧ wakeSleepBytes (chain 2).cfg = 38 := by decide

theorem test_witness_PhaseMachineRefinesTheWakes : (chain 1).payload = [] ∧ (chain 1).seq = .ready ∧
    1 ≤ (chain 1).cfg.n := by decide

theorem test_witness_BurstIsTheLeastOf300Microseconds : 300 * defaultCfg.fSck ≤ 8000000 * 38 ∧
    ¬ 300 * defaultCfg.fSck ≤ 8000000 * 37 := by decide

theorem test_witness_GapLowersTheLinkByAnyAmount : shortGap { chain 1 with gaps := [0] } ∧
    (afterGap { chain 1 with gaps := [0] }).link = .active ∧ (afterGap { chain 1 with gaps := [2] }).link = .sleep := by
  unfold shortGap; decide

/-- The last chip of a chain; the same state serves the other setters. -/
theorem test_witness_SetRefonAndSetAdcoptWriteTheirBits : (chain 2).payload = [] ∧ (1#8).toNat < (chain 2).cfg.n ∧
    (chain 2).chips.length = (chain 2).cfg.n := by decide

theorem test_witness_SetGpioWritesItsBit : (chain 2).payload = [] ∧ (1#8).toNat < (chain 2).cfg.n ∧
    (chain 2).chips.length = (chain 2).cfg.n ∧ (4#3).toNat ≤ 4 := by decide

theorem test_witness_SetUvWritesItsCode : (chain 2).payload = [] ∧ (1#8).toNat < (chain 2).cfg.n ∧
    (chain 2).chips.length = (chain 2).cfg.n ∧ 16 ≤ (16#16).toNat := by decide

theorem test_witness_SetOvWritesItsCode : (chain 2).payload = [] ∧ (1#8).toNat < (chain 2).cfg.n ∧
    (chain 2).chips.length = (chain 2).cfg.n := by decide

theorem test_witness_SetDccWritesItsBit : (chain 2).payload = [] ∧ (1#8).toNat < (chain 2).cfg.n ∧
    (chain 2).chips.length = (chain 2).cfg.n ∧ (11#4).toNat ≤ 11 := by decide

theorem test_witness_SetDctoWritesItsNibble : (chain 2).payload = [] ∧ (1#8).toNat < (chain 2).cfg.n ∧
    (chain 2).chips.length = (chain 2).cfg.n := by decide

/-- Every field at its largest index, from both copies. -/
theorem test_witness_GetCfgAnswersTheField : (chain 1).payload = [] ∧
    (∀ f ∈ [0, 1, 3, 4, 5, 6, 8], wellFormed (chain 1).cfg (.getCfgA 0 (BitVec.ofNat 4 f) .tx 0) = true) ∧
    wellFormed (chain 1).cfg (.getCfgA 0 2 .rx 4) = true ∧ wellFormed (chain 1).cfg (.getCfgA 0 7 .tx 11) = true ∧
    wellFormed (chain 1).cfg (.getCfgA 0 9 .tx 5) = true ∧ wellFormed (chain 1).cfg (.getCfgA 0 9 .rx 7) = true := by
  decide

theorem test_witness_CommBytesAreStoredAndAnswered : (chain 2).payload = [] ∧ (1#8).toNat < (chain 2).cfg.n ∧
    (chain 2).chips.length = (chain 2).cfg.n ∧ (5#3).toNat ≤ 5 := by decide

theorem test_witness_ThresholdsRoundTrip : (chain 2).payload = [] ∧ (1#8).toNat < (chain 2).cfg.n ∧
    (chain 2).chips.length = (chain 2).cfg.n ∧ 16 ≤ (16#16).toNat ∧
    (∃ t, exec (.setUvA 1 16) (chain 2) = .next t) ∧ (∃ t, exec (.setUvB 1 16) (chain 2) = .next t) ∧
    (∃ t, exec (.setOvA 1 0) (chain 2) = .next t) ∧ ∃ t, exec (.setOvB 1 0) (chain 2) = .next t :=
  ⟨by decide, by decide, by decide, by decide, ⟨_, rfl⟩, ⟨_, rfl⟩, ⟨_, rfl⟩, ⟨_, rfl⟩⟩

theorem test_witness_ReadCellOneStoresItsSubregister : answered.payload = [] ∧ answered.chips.length = answered.cfg.n ∧
    configWellFormed answered.cfg = true ∧ (5#3).toNat < answered.cfg.cellSubregs ∧
    (responseOf answered).length = 8 * answered.cfg.n := by decide

theorem test_witness_ReadAuxOneStoresItsSubregister : answered.payload = [] ∧ answered.chips.length = answered.cfg.n ∧
    configWellFormed answered.cfg = true ∧ (3#3).toNat < answered.cfg.auxSubregs ∧
    (responseOf answered).length = 8 * answered.cfg.n := by decide

theorem test_witness_ReadStatOneStoresItsSubregister : answered.payload = [] ∧ answered.chips.length = answered.cfg.n ∧
    configWellFormed answered.cfg = true ∧ (0#3).toNat < answered.cfg.statSubregs ∧
    (1#3).toNat < answered.cfg.statSubregs ∧ (responseOf answered).length = 8 * answered.cfg.n := by decide

/-- Every sub-register answered, and the first one answered short. -/
theorem test_witness_ReadAllReadsUntilAShapeError : answered.payload = [] ∧
    (∀ k, k < subregs answered.cfg .cell → (responseNo answered k).length = 8 * answered.cfg.n) ∧
    0 < subregs shortAnswered.cfg .stat ∧ (responseNo shortAnswered 0).length ≠ 8 * shortAnswered.cfg.n := by decide

theorem test_witness_GettersAnswerTheirField : (chain 1).payload = [] ∧ (0#8).toNat < (chain 1).cfg.n ∧
    (17#5).toNat ≤ 17 ∧ (11#4).toNat ≤ 11 ∧ (3#4).toNat ≤ 3 ∧ 4 ≤ (4#4).toNat ∧ (6#4).toNat ≤ 6 ∧ 2 ≤ (2#4).toNat ∧
    (13#4).toNat ≤ 13 := by decide

theorem test_witness_ResetCountersZeroesOnlyCounters : answered.payload = [] := by decide

theorem test_witness_CorrectResponsesDecodeAndOneFlippedByteIsFlagged : (chain 2).payload = [] ∧
    (chain 2).chips.length = (chain 2).cfg.n ∧ configWellFormed (chain 2).cfg = true ∧
    (5#3).toNat < subregs (chain 2).cfg .cell ∧ (3#3).toNat < subregs (chain 2).cfg .aux ∧
    (1#3).toNat < subregs (chain 2).cfg .stat ∧ 1 < (chain 2).cfg.n := by decide

/-- Two reads of cell sub-register A, each with chip 1 alone mismatching. -/
def readTwice : State :=
  { chain 2 with
    requests := List.replicate 2 ⟨encode (.readCellOne 0), []⟩ ++ []
    answers := List.replicate 2 cellResponse ++ [] }

theorem test_witness_RepeatedMismatchesAreCountedExactly :
    Instr.readCellOne 0 = readOneOf .cell 0 ∧ (2 : Nat) = regId .cell (0#3).toNat ∧
    (0#3).toNat < subregs readTwice.cfg .cell ∧ readTwice.chips.length = readTwice.cfg.n ∧
    configWellFormed readTwice.cfg = true ∧ cellResponse.length = 8 * readTwice.cfg.n ∧ 1 < readTwice.cfg.n ∧
    badChips readTwice.cfg cellResponse = [1] ∧ counterAt readTwice 1 0 + 2 < 2 ^ readTwice.cfg.cntW ∧
    counterAt readTwice 1 (counterId 2) + 2 < 2 ^ readTwice.cfg.cntW := by decide +kernel

/-- The last channel of each kind, and the default configuration. -/
theorem test_witness_StartsTransmitTheFoldedCode : State.reset.payload = [] ∧ (6#3).toNat ≤ 6 ∧ (4#3).toNat ≤ 4 ∧
    State.reset.cfg = defaultCfg := ⟨by decide, by decide, by decide, rfl⟩

/-- A chain whose POLL_MAX is 2, with its next answers. -/
def polled (answers : List (List Byte)) : State :=
  { State.resetWith { defaultCfg with pollMax := 2 } with answers := answers }

/-- The first fill, and the last one POLL_MAX allows. -/
theorem test_witness_PollEndsAtTheFirstNonZeroByte : (polled [[1]]).payload = [] ∧ 1 ≤ (polled [[1]]).cfg.pollMax ∧
    (∀ j, j + 1 < 1 → pollByte (polled [[1]]) j = 0) ∧ pollByte (polled [[1]]) 0 ≠ 0 ∧
    2 ≤ (polled [[0], [1]]).cfg.pollMax ∧ (∀ j, j < 1 → pollByte (polled [[0], [1]]) j = 0) ∧
    pollByte (polled [[0], [1]]) 1 ≠ 0 :=
  ⟨by decide, by decide, fun j hj => by omega, by decide, by decide, by decide, by decide⟩

theorem test_witness_PollTimesOutAtItsBound : (polled [[0], [0]]).payload = [] ∧
    ∀ j, j < (polled [[0], [0]]).cfg.pollMax → pollByte (polled [[0], [0]]) j = 0 := by decide

end Sys2Proof.Tests
end

