-- ==== Sys2Proof/Proofs/Reset.lean ====
section
/-! PROOFS. The state right after reset (10_state R55, 70_reset_and_hazards R370). -/

namespace Sys2Proof.Machine

/-! ### The fields of a reset state -/

@[simp] theorem resetWith_cfg (c : Cfg) : (State.resetWith c).cfg = c := rfl

@[simp] theorem resetWith_chips (c : Cfg) : (State.resetWith c).chips = List.replicate c.n Chip.zero := rfl

@[simp] theorem resetWith_link (c : Cfg) : (State.resetWith c).link = .sleep := rfl

@[simp] theorem resetWith_trace (c : Cfg) : (State.resetWith c).trace = [] := rfl

@[simp] theorem resetWith_results (c : Cfg) : (State.resetWith c).results = [] := rfl

/-! ### The chips of a reset state -/

theorem eq_zero_of_mem_resetWith_chips {c : Cfg} {ch : Chip} (h : ch ∈ (State.resetWith c).chips) :
    ch = Chip.zero :=
  List.eq_of_mem_replicate h

@[simp] theorem cfgGroup_zero (r : CfgReg) : cfgGroup r Chip.zero = CfgGroup.zero := by
  cases r <;> rfl

/-- Settles O22: every chip after reset is `Chip.zero`, whose vectors are all constant, and `cfg[A]` and `cfg[B]` of it
are the same zero group. -/
theorem resetValues : Obligations.ResetValues := by
  intro c
  refine ⟨resetWith_cfg c, by simp, resetWith_link c, resetWith_trace c, resetWith_results c, fun ch hch => ?_⟩
  obtain rfl := eq_zero_of_mem_resetWith_chips hch
  have group_zero : ∀ r, (cfgGroup r Chip.zero).tx.toList = List.replicate 6 0 ∧
      (cfgGroup r Chip.zero).rx.toList = List.replicate 8 0 ∧ (cfgGroup r Chip.zero).pecErr = false := fun r => by
    rw [cfgGroup_zero]
    exact ⟨Vector.toList_replicate, Vector.toList_replicate, rfl⟩
  refine ⟨group_zero, ?_⟩
  simp [Chip.zero]

end Sys2Proof.Machine
end

section
/-! PROOFS. The bytes of a command frame (30_encoding R108, 40_pec15 R143). -/

namespace Sys2Proof.Machine

/-! ### The bytes of a word, as numbers -/

theorem lowByte_eq_ofNat {w : Nat} (v : BitVec w) : v.extractLsb' 0 8 = BitVec.ofNat 8 (v.toNat % 256) := by
  apply BitVec.eq_of_toNat_eq
  simp

theorem secondByte_eq_ofNat {w : Nat} (v : BitVec w) : v.extractLsb' 8 8 = BitVec.ofNat 8 (v.toNat / 256) := by
  apply BitVec.eq_of_toNat_eq
  simp [Nat.shiftRight_eq_div_pow]

theorem pecBytes_eq_ofNat (bytes : List Byte) :
    pecBytes bytes = [BitVec.ofNat 8 ((pec16 bytes).toNat / 256), BitVec.ofNat 8 ((pec16 bytes).toNat % 256)] := by
  rw [pecBytes, secondByte_eq_ofNat, lowByte_eq_ofNat]

/-! ### The two code bytes -/

/-- The bits above a code are already 0, so CMD0's zero padding keeps the number. -/
theorem cmd0_eq_ofNat (c : CmdCode) : (c.extractLsb' 8 3).setWidth 8 = BitVec.ofNat 8 (c.toNat / 256) := by
  have code_lt : c.toNat < 2048 := c.isLt
  apply BitVec.eq_of_toNat_eq
  simp only [BitVec.toNat_setWidth, BitVec.extractLsb'_toNat, BitVec.toNat_ofNat, Nat.shiftRight_eq_div_pow]
  omega

theorem commandBytes_eq_ofNat (c : CmdCode) :
    commandBytes c = [BitVec.ofNat 8 (c.toNat / 256), BitVec.ofNat 8 (c.toNat % 256)] := by
  rw [commandBytes, cmd0_eq_ofNat, lowByte_eq_ofNat]

/-- Bits 7:3 of the first byte of every command frame are 0: CMD0 is three bits of the code, zero-extended. -/
theorem byteAt_commandFrame_zero_lt (c : CmdCode) : (byteAt (commandFrame c) 0).toNat < 8 := by
  have first_byte : byteAt (commandFrame c) 0 = (c.extractLsb' 8 3).setWidth 8 := rfl
  rw [first_byte, BitVec.toNat_setWidth_of_le (by decide)]
  exact (c.extractLsb' 8 3).isLt

/-- Settles O29: the frame is the two code bytes, then the two bytes of their PEC, each read as a number. -/
theorem commandFrameBytes : Obligations.CommandFrameBytes := by
  intro c
  have frame_eq : commandFrame c =
      [BitVec.ofNat 8 (c.toNat / 256), BitVec.ofNat 8 (c.toNat % 256)] ++ pecBytes (commandBytes c) := by
    rw [commandFrame, ← commandBytes_eq_ofNat]
  rw [pecBytes_eq_ofNat] at frame_eq
  exact ⟨frame_eq, commandBytes_eq_ofNat c, byteAt_commandFrame_zero_lt c⟩

end Sys2Proof.Machine
end

section
/-! PROOFS. The flip-flop form of the PEC computes the serial form's remainder (40_pec15 R141, R142). -/

namespace Sys2Proof.Machine

/-- The flip-flops that hold a remainder: flip-flop j is bit j. -/
def flopsOf (r : BitVec 15) : Vector Bool 15 :=
  Vector.ofFn fun j => r.getLsbD j.val

@[simp] theorem getElem_flopsOf (r : BitVec 15) {j : Nat} (hj : j < 15) : (flopsOf r)[j] = r.getLsbD j :=
  Vector.getElem_ofFn hj

theorem flopsOf_pecSeed : flopsOf pecSeed = pecFlopsSeed := by decide

/-! ### One bit through each form: a shift, and the feedback where the polynomial has a coefficient -/

theorem getLsbD_pecBit (r : BitVec 15) (b : Bool) {j : Nat} (hj : j < 15) :
    (pecBit r b).getLsbD j = (((b ^^ r.getLsbD 14) && pecPoly.getLsbD j) ^^ (0 < j && r.getLsbD (j - 1))) := by
  have getLsbD_shift : (r <<< 1).getLsbD j = (decide (0 < j) && r.getLsbD (j - 1)) := by
    simp only [BitVec.getLsbD_shiftLeft, hj, Nat.lt_one_iff, Nat.pos_iff_ne_zero, decide_true, Bool.true_and,
      decide_not]
  unfold pecBit
  cases b ^^ r.getLsbD 14 with
  | false => simp only [Bool.false_eq_true, if_false, Bool.false_and, Bool.false_xor, getLsbD_shift]
  | true => simp only [if_true, Bool.true_and, BitVec.getLsbD_xor, getLsbD_shift, Bool.xor_comm]

/-- The taps of R142 stand exactly at the polynomial's coefficients 14, 10, 8, 7, 4, 3 and 0. -/
theorem getElem_pecFlops_flopsOf (r : BitVec 15) (b : Bool) {j : Nat} (hj : j < 15) :
    (pecFlops (flopsOf r) b)[j] =
      (((b ^^ r.getLsbD 14) && pecPoly.getLsbD j) ^^ (0 < j && r.getLsbD (j - 1))) := by
  interval_cases j <;> simp [pecFlops, pecPoly]

theorem pecFlops_flopsOf (r : BitVec 15) (b : Bool) : pecFlops (flopsOf r) b = flopsOf (pecBit r b) := by
  ext j hj
  rw [getElem_pecFlops_flopsOf r b hj, getElem_flopsOf, getLsbD_pecBit r b hj]

/-! ### A byte and a byte list: both forms fold over the same bits -/

theorem pecFlopsByte_flopsOf (r : BitVec 15) (b : Byte) : pecFlopsByte (flopsOf r) b = flopsOf (pecByte r b) :=
  List.foldl_hom flopsOf fun r i => pecFlops_flopsOf r (b.getLsbD i)

theorem pecFlopsRun_eq_flopsOf_pec15 (bytes : List Byte) : pecFlopsRun bytes = flopsOf (pec15 bytes) := by
  rw [pecFlopsRun, ← flopsOf_pecSeed]
  exact List.foldl_hom flopsOf pecFlopsByte_flopsOf

/-- Settles O23: the flip-flops after a byte list are the bits of its remainder, since one input bit keeps them so. -/
theorem flipFlopFormComputesTheSameRemainder : Obligations.FlipFlopFormComputesTheSameRemainder := by
  intro bytes j hj
  rw [pecFlopsRun_eq_flopsOf_pec15, Vector.getElem?_eq_getElem hj, getElem_flopsOf]

end Sys2Proof.Machine
end

section
/-! PROOFS. The position map is its own inverse on the chain, and `chipAt` reads it backwards (41_frame_builder R160,
R161). -/

namespace Sys2Proof.Machine

/-! ### The two values of the position map -/

theorem pos_of_not_rev {c : Cfg} {i : Nat} (h : revOf c i = false) : pos c i = i := by
  simp [pos, h]

theorem pos_of_rev {c : Cfg} {i : Nat} (h : revOf c i = true) : pos c i = c.n - 1 - i := by
  simp [pos, h]

theorem pos_eq_self_of_middle {c : Cfg} {i : Nat} (h : c.n - 1 - i = i) : pos c i = i := by
  rw [pos, h, ite_self]

/-! ### Mirrored flags make it an involution -/

/-- Condition (b) of 00_scope R9. -/
theorem revOf_mirror {c : Cfg} (wf : configWellFormed c = true) {i : Nat} (hi : i < c.n) :
    revOf c (c.n - 1 - i) = revOf c i := by
  simp only [configWellFormed, Bool.and_eq_true, List.all_eq_true, List.mem_range, beq_iff_eq] at wf
  obtain ⟨⟨⟨⟨⟨⟨⟨⟨-, mirror⟩, -⟩, -⟩, -⟩, -⟩, -⟩, -⟩, -⟩ := wf
  exact (mirror i hi).symm

/-- A chip's flag stands at its position too, so mapping the position back undoes the same mirroring. -/
theorem pos_pos {c : Cfg} (wf : configWellFormed c = true) {i : Nat} (hi : i < c.n) : pos c (pos c i) = i := by
  cases hrev : revOf c i with
  | false => rw [pos_of_not_rev hrev, pos_of_not_rev hrev]
  | true =>
    have mirror_rev : revOf c (c.n - 1 - i) = true := (revOf_mirror wf hi).trans hrev
    rw [pos_of_rev hrev, pos_of_rev mirror_rev]
    omega

theorem eq_of_pos_eq {c : Cfg} (wf : configWellFormed c = true) {i j : Nat} (hi : i < c.n) (hj : j < c.n)
    (h : pos c i = pos c j) : i = j := by
  rw [← pos_pos wf hi, h, pos_pos wf hj]

/-! ### The chip at a position -/

/-- The search for the chip at `pos c i` ends: chip i itself passes it, and no other chip does. -/
theorem chipAt_pos {c : Cfg} (wf : configWellFormed c = true) {i : Nat} (hi : i < c.n) : chipAt c (pos c i) = i := by
  unfold chipAt
  cases search : (List.range c.n).find? fun j => pos c j == pos c i with
  | none =>
    have i_fails := List.find?_eq_none.mp search i (List.mem_range.mpr hi)
    exact absurd (beq_self_eq_true _) i_fails
  | some k =>
    have k_lt : k < c.n := List.mem_range.mp (List.mem_of_find?_eq_some search)
    have k_passes := List.find?_some search
    exact eq_of_pos_eq wf k_lt hi (beq_iff_eq.mp k_passes)

theorem chipAt_eq_pos {c : Cfg} (wf : configWellFormed c = true) {p : Nat} (hp : p < c.n) : chipAt c p = pos c p := by
  calc chipAt c p = chipAt c (pos c (pos c p)) := by rw [pos_pos wf hp]
    _ = pos c p := chipAt_pos wf (pos_lt hp)

/-- Settles O27: an involution is its own inverse, so `chipAt` is `pos`, and the uniform wirings and the middle chip
are its two values. -/
theorem positionMapIsAnInvolution : Obligations.PositionMapIsAnInvolution := by
  intro c wf
  refine ⟨fun i hi => ⟨pos_lt hi, pos_pos wf hi, chipAt_eq_pos wf hi⟩, fun none_rev p hp => ?_,
    fun all_rev p hp => ?_, fun odd => pos_eq_self_of_middle (by omega)⟩
  · rw [chipAt_eq_pos wf hp, pos_of_not_rev (none_rev p hp)]
  · rw [chipAt_eq_pos wf hp, pos_of_rev (all_rev p hp)]

end Sys2Proof.Machine
end

section
/-! PROOFS. Where a chip's block stands in a write frame (41_frame_builder R163, R164). -/

namespace Sys2Proof.Machine

/-! ### A write frame is its command frame and N blocks of eight bytes -/

section
variable {c : Cfg} {k : CmdCode} {data : Nat → List Byte}

theorem writeFrame_length (hdata : ∀ i, (data i).length = 6) : (writeFrame c k data).length = 4 + 8 * c.n := by
  rw [writeFrame, List.length_append, commandFrame_length, flatMap_blocks_length fun j _ => by simp [hdata]]

theorem writeFrame_take_command : (writeFrame c k data).take 4 = commandFrame k :=
  List.take_left' (commandFrame_length k)

/-- Block m is that of the chip at physical position N-1-m. -/
theorem writeFrame_block (hdata : ∀ i, (data i).length = 6) {m : Nat} (hm : m < c.n) :
    ((writeFrame c k data).drop (4 + 8 * m)).take 8 = writeBlock (data (chipAt c (c.n - 1 - m))) := by
  rw [← List.drop_drop, writeFrame, List.drop_left' (commandFrame_length k)]
  exact flatMap_blocks_get (fun j _ => by simp [hdata]) hm

theorem writeFrame_block_of_chip (wf : configWellFormed c = true) (hdata : ∀ i, (data i).length = 6) {i : Nat}
    (hi : i < c.n) : ((writeFrame c k data).drop (4 + 8 * (c.n - 1 - pos c i))).take 8 = writeBlock (data i) := by
  have pos_lt_n : pos c i < c.n := pos_lt hi
  have mirror_back : c.n - 1 - (c.n - 1 - pos c i) = pos c i := by omega
  rw [writeFrame_block hdata (by omega), mirror_back, chipAt_pos wf hi]

end

/-! ### A block is its payload and its PEC -/

theorem writeBlock_take {bytes : List Byte} (h : bytes.length = 6) : (writeBlock bytes).take 6 = bytes :=
  List.take_left' h

theorem writeBlock_drop {bytes : List Byte} (h : bytes.length = 6) : (writeBlock bytes).drop 6 = pecBytes bytes :=
  List.drop_left' h

/-- The two parts of an eight-byte block that stands at an offset of a list. -/
theorem parts_of_block {l bytes : List Byte} {off : Nat} (hbytes : bytes.length = 6)
    (block : (l.drop off).take 8 = writeBlock bytes) :
    (l.drop off).take 6 = bytes ∧ (l.drop (off + 6)).take 2 = pecBytes bytes := by
  constructor
  · calc (l.drop off).take 6 = ((l.drop off).take 8).take 6 := by rw [List.take_take]; rfl
      _ = bytes := by rw [block, writeBlock_take hbytes]
  · calc (l.drop (off + 6)).take 2 = ((l.drop off).take 8).drop 6 := by rw [List.drop_take, List.drop_drop]
      _ = pecBytes bytes := by rw [block, writeBlock_drop hbytes]

/-- Settles O30: the block at that offset is the one of the chip at position pos(i), which is chip i. -/
theorem writeFrameHoldsEachChipAtItsOffset : Obligations.WriteFrameHoldsEachChipAtItsOffset := by
  intro c k data wf hdata
  exact ⟨writeFrame_length hdata, writeFrame_take_command, fun i hi =>
    parts_of_block (hdata i) (writeFrame_block_of_chip wf hdata hi)⟩

end Sys2Proof.Machine
end

section
/-! PROOFS. The length of the wake burst (42_link_sequencer R208). -/

namespace Sys2Proof.Machine

/-! ### The burst length is a rounded-up quotient -/

/-- The formula of R208 rounds up by adding the divisor less one. -/
theorem wakeSleepBytes_eq_ceilDiv (c : Cfg) : wakeSleepBytes c = (300 * c.fSck) ⌈/⌉ 8000000 := by
  rw [wakeSleepBytes, Nat.ceilDiv_eq_add_pred_div, Nat.add_sub_assoc (by decide)]

/-- The bound on the right is `m * 8 / F_SCK ≥ 300 µs`, cleared of its fractions. -/
theorem wakeSleepBytes_le_iff (c : Cfg) (m : Nat) : wakeSleepBytes c ≤ m ↔ 300 * c.fSck ≤ 8000000 * m := by
  have divisor_pos : 0 < 8000000 := by decide
  rw [wakeSleepBytes_eq_ceilDiv, ceilDiv_le_iff_le_mul divisor_pos]

/-- Settles O39: a burst of m bytes is long enough exactly when m is at least WAKE_SLEEP_BYTES, which is itself such an
m; the five values are computed. -/
theorem burstIsTheLeastOf300Microseconds : Obligations.BurstIsTheLeastOf300Microseconds := by
  refine ⟨fun c => ⟨?long_enough, fun m => ?least⟩, by decide⟩
  case long_enough => exact (wakeSleepBytes_le_iff c _).mp le_rfl
  case least => exact (wakeSleepBytes_le_iff c m).mpr

end Sys2Proof.Machine
end

section
/-! PROOFS. A threshold that a codec setter writes, read back by GET_CFG (43_register_codec R221, R225, R226, R229,
R230). -/

namespace Sys2Proof.Machine

/-! ### Transmit bytes and their fields -/

theorem cfgTx_packTx_self {k : Nat} (hk : k < 6) (r : CfgReg) (m v : Byte) (s : Nat) (c : Chip) :
    cfgTx r k (packTx r k m v s c) = packField (cfgTx r k c) m v s := by
  simp [cfgTx, packTx_tx, hk]

theorem cfgTx_packTx_of_ne {j k : Nat} (h : k ≠ j) (r : CfgReg) (m v : Byte) (s : Nat) (c : Chip) :
    cfgTx r j (packTx r k m v s c) = cfgTx r j c := by
  simp [cfgTx, packTx_tx, h]

/-- Inside its mask a field write leaves nothing of the old byte. -/
theorem packField_and_mask (b m v : Byte) (s : Nat) : packField b m v s &&& m = v <<< s &&& m := by
  refine BitVec.eq_of_getLsbD_eq fun j _ => ?_
  rw [BitVec.getLsbD_and, BitVec.getLsbD_and, packField_getLsbD]
  cases m.getLsbD j with
  | false => rw [Bool.and_false, Bool.and_false]
  | true => rw [if_pos rfl]

theorem packField_wholeByte (b v : Byte) : packField b 0xFF v 0 = v := by
  have all_ones (x : Byte) : x &&& 0xFF = x := BitVec.and_allOnes
  calc packField b 0xFF v 0 = packField b 0xFF v 0 &&& 0xFF := (all_ones _).symm
    _ = v <<< 0 &&& 0xFF := packField_and_mask b 0xFF v 0
    _ = v := by rw [all_ones, BitVec.shiftLeft_zero]

/-! ### A stored code is the code read

The two bytes of a code cover its twelve bits: 0..7 and 8..11 of the under-voltage code, 0..3 and 4..11 of the
over-voltage code (10_state R47). -/

theorem uvOf_cfgCopy_tx (r : CfgReg) (c : Chip) :
    uvOf (cfgCopy r .tx c) = (cfgTx r 1 c).setWidth 12 ||| ((cfgTx r 2 c &&& (0x0F : Byte)).setWidth 12 <<< 8) := by
  simp [uvOf, cfgCopy, cfgTx]

theorem ovOf_cfgCopy_tx (r : CfgReg) (c : Chip) :
    ovOf (cfgCopy r .tx c) = (cfgTx r 2 c >>> 4).setWidth 12 ||| ((cfgTx r 3 c).setWidth 12 <<< 4) := by
  simp [ovOf, cfgCopy, cfgTx]

theorem uvOf_storeUv (r : CfgReg) (raw : BitVec 12) (c : Chip) : uvOf (cfgCopy r .tx (storeUv r raw c)) = raw := by
  have byte1 : cfgTx r 1 (storeUv r raw c) = raw.extractLsb' 0 8 := by
    rw [storeUv, cfgTx_packTx_of_ne (by decide), cfgTx_packTx_self (by decide), packField_wholeByte]
  have nibble2 : cfgTx r 2 (storeUv r raw c) &&& (0x0F : Byte) =
      (raw.extractLsb' 8 4).setWidth 8 <<< 0 &&& (0x0F : Byte) := by
    rw [storeUv, cfgTx_packTx_self (by decide), packField_and_mask]
  rw [uvOf_cfgCopy_tx, byte1, nibble2]
  ext j hj
  interval_cases j <;> simp

theorem shiftRight_four_eq_and (b : Byte) : b >>> 4 = (b &&& 0xF0) >>> 4 := by
  ext j hj
  interval_cases j <;> simp

theorem ovOf_storeOv (r : CfgReg) (raw : BitVec 12) (c : Chip) : ovOf (cfgCopy r .tx (storeOv r raw c)) = raw := by
  have nibble2 : cfgTx r 2 (storeOv r raw c) &&& (0xF0 : Byte) = (raw.extractLsb' 0 4).setWidth 8 <<< 4 &&& 0xF0 := by
    rw [storeOv, cfgTx_packTx_of_ne (by decide), cfgTx_packTx_self (by decide), packField_and_mask]
  have byte3 : cfgTx r 3 (storeOv r raw c) = raw.extractLsb' 4 8 := by
    rw [storeOv, cfgTx_packTx_self (by decide), packField_wholeByte]
  rw [ovOf_cfgCopy_tx, shiftRight_four_eq_and, nibble2, byte3]
  ext j hj
  interval_cases j <;> simp

/-! ### The codes of a threshold, as numbers -/

theorem uvRaw_toNat (T : U16) : (uvRaw T).toNat = T.toNat / 16 - 1 := by
  have T_lt : T.toNat < 65536 := T.isLt
  rw [uvRaw, BitVec.toNat_ofNat]
  omega

theorem ovRaw_toNat (T : U16) : (ovRaw T).toNat = T.toNat / 16 := by
  have T_lt : T.toNat < 65536 := T.isLt
  rw [ovRaw, BitVec.toNat_ofNat]
  omega

/-! ### A setter and a getter that pass their checks -/

section
variable {s : State} {chip : ChipField}

theorem setterOf_of_pass (hpay : s.payload = []) (hchip : chip.toNat < s.cfg.n) (change : Chip → Chip) (val : Nat) :
    setterOf chip false change val s = finishOk val (updChip chip.toNat change s) :=
  guarded_of_pass _ s (by simp [chipCheck, fieldCheck, payloadCheck, hpay, Nat.not_le.mpr hchip])

/-- Index 0 is in range for every field. -/
theorem getCfg_of_pass (hpay : s.payload = []) (hchip : chip.toNat < s.cfg.n) (r : CfgReg) {f : BitVec 4}
    (hf : f.toNat ≤ 9) (src : Copy) :
    getCfg r chip f src 0 s =
      withResult s .ok (cfgFieldValue (cfgCopy r src (chipOf s chip.toNat)) f.toNat 0) [] :=
  guarded_of_pass _ s (by simp [chipCheck, fieldCheck, payloadCheck, hpay, Nat.not_le.mpr hchip, Nat.not_lt.mpr hf])

/-- GET_CFG after a setter on the same chip decodes the changed transmit bytes. -/
theorem getCfg_setterOf (hpay : s.payload = []) (hchip : chip.toNat < s.cfg.n) (hlen : s.chips.length = s.cfg.n)
    (r : CfgReg) {f : BitVec 4} (hf : f.toNat ≤ 9) (src : Copy) (change : Chip → Chip) (val : Nat) :
    getCfg r chip f src 0 (setterOf chip false change val s) =
      withResult (setterOf chip false change val s) .ok
        (cfgFieldValue (cfgCopy r src (change (chipOf s chip.toNat))) f.toNat 0) [] := by
  have changed : chipOf (finishOk val (updChip chip.toNat change s)) chip.toNat = change (chipOf s chip.toNat) :=
    (chipOf_updChip chip.toNat chip.toNat change s).trans (if_pos ⟨rfl, hlen ▸ hchip⟩)
  rw [setterOf_of_pass hpay hchip, ← changed]
  exact getCfg_of_pass (s := finishOk val (updChip chip.toNat change s)) hpay hchip r hf src

/-! ### The thresholds, in either register -/

theorem getCfg_setUv (hpay : s.payload = []) (hchip : chip.toNat < s.cfg.n) (hlen : s.chips.length = s.cfg.n)
    (r : CfgReg) {T : U16} (hT : 16 ≤ T.toNat) :
    getCfg r chip 5 .tx 0 (setUv r chip T s) = withResult (setUv r chip T s) .ok (T.toNat / 16 * 16) [] := by
  have in_range : decide (T.toNat < 16) = false := decide_eq_false (by omega)
  have threshold : ((uvRaw T).toNat + 1) * 16 = T.toNat / 16 * 16 := by
    rw [uvRaw_toNat]
    omega
  rw [setUv, in_range, getCfg_setterOf hpay hchip hlen r (by decide)]
  change withResult _ .ok (((uvOf (cfgCopy r .tx (storeUv r (uvRaw T) _))).toNat + 1) * 16) [] = _
  rw [uvOf_storeUv, threshold]

theorem getCfg_setOv (hpay : s.payload = []) (hchip : chip.toNat < s.cfg.n) (hlen : s.chips.length = s.cfg.n)
    (r : CfgReg) (T : U16) :
    getCfg r chip 6 .tx 0 (setOv r chip T s) = withResult (setOv r chip T s) .ok (T.toNat / 16 * 16) [] := by
  rw [setOv, getCfg_setterOf hpay hchip hlen r (by decide)]
  change withResult _ .ok ((ovOf (cfgCopy r .tx (storeOv r (ovRaw T) _))).toNat * 16) [] = _
  rw [ovOf_storeOv, ovRaw_toNat]

end

/-! ### The instructions, register by register -/

theorem exec_uvSetterOf (r : CfgReg) (chip : ChipField) (T : U16) (s : State) :
    exec (uvSetterOf r chip T) s = .next (setUv r chip T s) := by
  cases r <;> rfl

theorem exec_ovSetterOf (r : CfgReg) (chip : ChipField) (T : U16) (s : State) :
    exec (ovSetterOf r chip T) s = .next (setOv r chip T s) := by
  cases r <;> rfl

theorem exec_getCfgA (chip : ChipField) (f : BitVec 4) (src : Copy) (x : BitVec 4) (s : State) :
    exec (.getCfgA chip f src x) s = .next (getCfg .a chip f src x s) := rfl

theorem exec_getCfgB (chip : ChipField) (f : BitVec 4) (src : Copy) (x : BitVec 4) (s : State) :
    exec (.getCfgB chip f src x) s = .next (getCfg .b chip f src x s) := rfl

theorem eq_setUv_of_exec {r : CfgReg} {chip : ChipField} {T : U16} {s t : State}
    (h : exec (uvSetterOf r chip T) s = .next t) : t = setUv r chip T s :=
  (Host.Outcome.next.inj ((exec_uvSetterOf r chip T s).symm.trans h)).symm

theorem eq_setOv_of_exec {r : CfgReg} {chip : ChipField} {T : U16} {s t : State}
    (h : exec (ovSetterOf r chip T) s = .next t) : t = setOv r chip T s :=
  (Host.Outcome.next.inj ((exec_ovSetterOf r chip T s).symm.trans h)).symm

/-- Settles O49: GET_CFG decodes the very code the setter stored, and a code and its threshold differ by a factor of 16
(and, for the under-voltage one, by 1). -/
theorem thresholdsRoundTrip : Obligations.ThresholdsRoundTrip := by
  refine ⟨fun s t chip T hpay hchip hlen => ⟨fun hT h => ?uvA, fun hT h => ?uvB, fun h => ?ovA, fun h => ?ovB⟩,
    fun T => ?multiple, fun raw hraw => ?uvCode, fun raw hraw => ?ovCode⟩
  case uvA =>
    obtain rfl := eq_setUv_of_exec (r := .a) h
    rw [exec_getCfgA, getCfg_setUv hpay hchip hlen .a hT]
  case uvB =>
    obtain rfl := eq_setUv_of_exec (r := .b) h
    rw [exec_getCfgB, getCfg_setUv hpay hchip hlen .b hT]
  case ovA =>
    obtain rfl := eq_setOv_of_exec (r := .a) h
    rw [exec_getCfgA, getCfg_setOv hpay hchip hlen .a T]
  case ovB =>
    obtain rfl := eq_setOv_of_exec (r := .b) h
    rw [exec_getCfgB, getCfg_setOv hpay hchip hlen .b T]
  case multiple => omega
  case uvCode =>
    rw [uvRaw_toNat, BitVec.toNat_ofNat]
    omega
  case ovCode =>
    rw [ovRaw_toNat, BitVec.toNat_ofNat]
    omega

end Sys2Proof.Machine
end

section
/-! PROOFS. The error counters never decrease between two RESET_COUNTERS (44_measurement_parser R268, R283). -/

namespace Sys2Proof.Machine

/-! ### From the start of a request to its end

The pending requests stay, so that a run presents the requests its first state lists. -/

/-- No pending request has changed, and each counter of each chip stands in the relation R to its value before. -/
def CountersRel (R : Nat → Nat → Prop) (s t : State) : Prop :=
  t.requests = s.requests ∧ ∀ chip c, R (counterAt s chip c) (counterAt t chip c)

/-- No counter of any chip has changed. -/
abbrev CountersKept : State → State → Prop := CountersRel (· = ·)

/-- No counter of any chip has decreased. -/
abbrev CountersGrown : State → State → Prop := CountersRel (· ≤ ·)

theorem CountersKept.grown {s t : State} (h : CountersKept s t) : CountersGrown s t :=
  ⟨h.1, fun chip c => (h.2 chip c).le⟩

theorem CountersGrown.trans {s t u : State} (hst : CountersGrown s t) (htu : CountersGrown t u) : CountersGrown s u :=
  ⟨htu.1.trans hst.1, fun chip c => (hst.2 chip c).trans (htu.2 chip c)⟩

section
variable {R : Nat → Nat → Prop} [Std.Refl R] {s t : State}

theorem CountersRel.of_chips_eq (hreq : t.requests = s.requests) (hchips : t.chips = s.chips) : CountersRel R s t := by
  refine ⟨hreq, fun chip c => ?_⟩
  rw [counterAt, counterAt, chipOf, chipOf, hchips]
  exact Std.Refl.refl _

/-! ### Changing chips -/

theorem countersRel_updChip {i : Nat} {f : Chip → Chip}
    (hf : ∀ (ch : Chip) (c : Nat), R (ch.cnt[c]?.getD 0) ((f ch).cnt[c]?.getD 0)) (s : State) :
    CountersRel R s (updChip i f s) := by
  refine ⟨rfl, fun chip c => ?_⟩
  rw [counterAt, counterAt, chipOf_updChip]
  split
  case isTrue h => rw [h.1]; exact hf _ c
  case isFalse => exact Std.Refl.refl _

theorem countersRel_storeAll {store : Group → Chip → Chip}
    (hstore : ∀ (g : Group) (ch : Chip) (c : Nat), R (ch.cnt[c]?.getD 0) ((store g ch).cnt[c]?.getD 0))
    (response : List Byte) (s : State) : CountersRel R s (storeAll store response s) := by
  refine ⟨rfl, fun chip c => ?_⟩
  rw [counterAt, counterAt, chipOf_storeAll]
  split
  case isTrue => exact hstore _ _ c
  case isFalse => exact Std.Refl.refl _

/-! ### The shapes of a request -/

theorem guarded_countersRel (checks : List (Bool × Reason)) {body : State → State}
    (hbody : CountersRel R s (body s)) : CountersRel R s (guarded checks body s) := by
  obtain passed | ⟨r, -, failed⟩ := guarded_cases checks body s
  · rwa [passed]
  · rw [failed]
    exact .of_chips_eq rfl rfl

theorem readOne_countersRel {store : Group → Chip → Chip}
    (hstore : ∀ (g : Group) (ch : Chip) (c : Nat), R (ch.cnt[c]?.getD 0) ((store g ch).cnt[c]?.getD 0)) (c : CmdCode)
    (k id : Nat) (s : State) : CountersRel R s (readOne c k id store s) := by
  obtain stored | shape := readOne_cases c k id store s
  · rw [stored]
    exact countersRel_storeAll hstore (responseOf s) (exchange c s)
  · rw [shape]
    exact .of_chips_eq rfl rfl

end

/-! ### Accounting only increments -/

theorem cnt_le_bumpCounter (w id : Nat) (ch : Chip) (c : Nat) :
    ch.cnt[c]?.getD 0 ≤ (bumpCounter w id ch).cnt[c]?.getD 0 := by
  rw [bumpCounter_cnt]
  split
  case isTrue h => rw [h.1]; exact le_satInc w _
  case isFalse => exact le_rfl

theorem cnt_le_account (w id : Nat) (ch : Chip) (c : Nat) :
    ch.cnt[c]?.getD 0 ≤ (account w id ch).cnt[c]?.getD 0 :=
  (cnt_le_bumpCounter w 0 ch c).trans (cnt_le_bumpCounter w (counterId id) _ c)

theorem cnt_le_storeMeasurement (w : Nat) (kind : Kind) (k : Nat) (g : Group) (ch : Chip) (c : Nat) :
    ch.cnt[c]?.getD 0 ≤ (storeMeasurement w kind k g ch).cnt[c]?.getD 0 := by
  have stored : (setKindFlag kind k (!groupOk g) (decodeGroup kind k g ch)).cnt = ch.cnt := by simp
  rw [storeMeasurement, ← stored]
  split
  case isTrue => exact le_rfl
  case isFalse => exact cnt_le_account w _ _ c

theorem cnt_le_storeCfgGroup (w : Nat) (r : CfgReg) (g : Group) (ch : Chip) (c : Nat) :
    ch.cnt[c]?.getD 0 ≤ (storeCfgGroup w r g ch).cnt[c]?.getD 0 := by
  rw [storeCfgGroup_cnt]
  split
  case isTrue => exact le_satInc w _
  case isFalse => exact le_rfl

/-! ### Setters change no counter -/

theorem packTx_cnt (r : CfgReg) (k : Nat) (m v : Byte) (sh : Nat) (ch : Chip) :
    (packTx r k m v sh ch).cnt = ch.cnt := by
  rw [packTx_eq, setCfgGroup_cnt]

theorem storeUv_cnt (r : CfgReg) (raw : BitVec 12) (ch : Chip) : (storeUv r raw ch).cnt = ch.cnt := by
  rw [storeUv, packTx_cnt, packTx_cnt]

theorem storeOv_cnt (r : CfgReg) (raw : BitVec 12) (ch : Chip) : (storeOv r raw ch).cnt = ch.cnt := by
  rw [storeOv, packTx_cnt, packTx_cnt]

theorem setterOf_countersKept (chip : ChipField) (outOfRange : Bool) {change : Chip → Chip}
    (hchange : ∀ ch, (change ch).cnt = ch.cnt) (val : Nat) (s : State) :
    CountersKept s (setterOf chip outOfRange change val s) :=
  guarded_countersRel _ (countersRel_updChip (fun ch c => by rw [hchange]) s)

/-! ### Reads and the poll loop -/

theorem readSubreg_countersGrown (kind : Kind) (k : Nat) (s : State) : CountersGrown s (readSubreg kind k s) :=
  guarded_countersRel _ (readOne_countersRel (cnt_le_storeMeasurement _ kind k) _ k _ s)

theorem readAll_countersGrown (kind : Kind) (s : State) : CountersGrown s (readAll kind s) :=
  guarded_countersRel _ <| readAllFrom_induct kind (CountersGrown s) (fun _ _ grown => grown)
    (fun k response u grown => grown.trans (countersRel_storeAll (cnt_le_storeMeasurement _ kind k) response u))
    (fun _ _ grown => grown) _ [] s ⟨rfl, fun _ _ => le_rfl⟩

theorem pollFrom_countersKept (left k : Nat) (s : State) : CountersKept s (pollFrom left k s) := by
  induction left generalizing k s with
  | zero => exact .of_chips_eq rfl rfl
  | succ left ih =>
    rw [pollFrom]
    split
    case isTrue => exact ih (k + 1) (busFill 1 s)
    case isFalse => exact .of_chips_eq rfl rfl

/-! ### Every request -/

/-- Every request but those of the "written by" column of the counters (10_state R52) changes none. -/
theorem exec_countersKept {i : Instr} (hi : writes .cnt i = false) {s t : State} (h : exec i s = .next t) :
    CountersKept s t := by
  cases i with
  | readCfg | readCellAll | readCellOne | readAuxAll | readAuxOne | readStatAll | readStatOne | resetCounters =>
    exact absurd hi.symm Bool.false_ne_true
  | pecCalc | sendCmd | writeCfg | writeComm | getCfgA | getCfgB | getComm | getCell | getAux | getStat | getPecFlag
  | getCounter | startAdcv | startAdax | startAdstat =>
    cases h
    exact guarded_countersRel _ (.of_chips_eq rfl rfl)
  | wakeIdle =>
    cases h
    exact guarded_countersRel _ (.of_chips_eq (by rw [repeatStep_idleFill]; rfl) (by rw [repeatStep_idleFill]; rfl))
  | wakeSleep =>
    cases h
    exact guarded_countersRel _ (.of_chips_eq (by rw [repeatStep_sleepBurst]; rfl) (by rw [repeatStep_sleepBurst]; rfl))
  | setRefonA | setRefonB | setAdcoptA | setAdcoptB | setGpioA | setGpioB | setDccA | setDccB | setDctoA | setDctoB =>
    cases h
    exact setterOf_countersKept _ _ (packTx_cnt _ _ _ _ _) _ s
  | setUvA | setUvB =>
    cases h
    exact setterOf_countersKept _ _ (storeUv_cnt _ _) _ s
  | setOvA | setOvB =>
    cases h
    exact setterOf_countersKept _ _ (storeOv_cnt _ _) _ s
  | setComm =>
    cases h
    refine setterOf_countersKept _ _ ?_ _ s
    exact fun _ => rfl
  | readComm =>
    cases h
    exact guarded_countersRel _ (readOne_countersRel (fun g ch c => by rw [storeCommGroup_cnt]) _ _ _ s)
  | poll =>
    cases h
    exact guarded_countersRel _ (pollFrom_countersKept _ 1 (busTx _ s))

theorem exec_countersGrown {i : Instr} (hi : i ≠ .resetCounters) {s t : State} (h : exec i s = .next t) :
    CountersGrown s t := by
  cases writer : writes .cnt i with
  | false => exact (exec_countersKept writer h).grown
  | true =>
    cases i with
    | readCfg r =>
      cases h
      exact guarded_countersRel _ (readOne_countersRel (cnt_le_storeCfgGroup _ r) _ _ _ s)
    | readCellAll | readAuxAll | readStatAll =>
      cases h
      exact readAll_countersGrown _ s
    | readCellOne | readAuxOne | readStatOne =>
      cases h
      exact readSubreg_countersGrown _ _ s
    | resetCounters => exact absurd rfl hi
    | _ => exact absurd writer Bool.false_ne_true

/-! ### Steps and runs -/

theorem runWord_countersGrown {w : RequestWord} (hw : decode w ≠ .ok .resetCounters) {s t : State}
    (h : runWord w s = .next t) : CountersGrown s t := by
  rw [runWord] at h
  split at h
  case h_1 i decoded =>
    exact exec_countersGrown (fun reset => hw (reset ▸ decoded)) h
  case h_2 e _ =>
    cases h
    cases e <;> exact .of_chips_eq rfl rfl

/-- A step that goes on waits, with no request pending, or runs the first pending one. -/
theorem step_cases {s t : State} (h : step s = .next t) :
    (s.requests = [] ∧ t = s) ∨ ∃ rq rest, s.requests = rq :: rest ∧ runWord rq.word (present rq s) = .next t := by
  rw [step] at h
  split at h
  case isFalse => cases h
  case isTrue =>
    split at h
    case h_1 none_pending => exact .inl ⟨none_pending, (Host.Outcome.next.inj h).symm⟩
    case h_2 rq rest pending => exact .inr ⟨rq, rest, pending, h⟩

theorem step_counters_le {s t : State} (h : step s = .next t)
    (hreq : ∀ rq ∈ s.requests.take 1, decode rq.word ≠ .ok .resetCounters) :
    t.requests = s.requests.tail ∧ ∀ chip c, counterAt s chip c ≤ counterAt t chip c := by
  obtain ⟨none_pending, rfl⟩ | ⟨rq, rest, pending, ran⟩ := step_cases h
  · exact ⟨by rw [none_pending]; rfl, fun _ _ => le_rfl⟩
  · exact runWord_countersGrown (hreq rq (by simp [pending])) ran

theorem run_succ_inv {M : Host.Core} {k : Nat} {s t : M.State} (h : M.run (k + 1) s = .next t) :
    ∃ u, M.step s = .next u ∧ M.run k u = .next t := by
  rw [Host.Core.run] at h
  split at h
  case h_1 u stepped => exact ⟨u, stepped, h⟩
  case h_2 => cases h
  case h_3 => cases h

theorem run_counters_le {k : Nat} {s t : State} (h : Host.Core.run Sys2Proof.core k s = .next t)
    (hreq : ∀ rq ∈ s.requests.take k, decode rq.word ≠ .ok .resetCounters) (chip c : Nat) :
    counterAt s chip c ≤ counterAt t chip c := by
  induction k generalizing s with
  | zero =>
    cases h
    exact le_rfl
  | succ k ih =>
    obtain ⟨u, stepped, ran⟩ := run_succ_inv h
    have first_is_no_reset : ∀ rq ∈ s.requests.take 1, decode rq.word ≠ .ok .resetCounters := fun rq hrq =>
      hreq rq (List.take_subset_take_left s.requests (by omega) hrq)
    obtain ⟨requests_left, le_u⟩ := step_counters_le stepped first_is_no_reset
    refine (le_u chip c).trans (ih ran fun rq hrq => hreq rq ?_)
    have later_requests : (s.requests.take (k + 1)).tail = u.requests.take k := by
      rw [requests_left, List.tail_take_eq_take_tail, Nat.add_sub_cancel]
    exact List.mem_of_mem_tail (later_requests ▸ hrq)

/-- Settles O21: accounting is the only change a request but RESET_COUNTERS makes to a counter, and it increments; a
run follows by induction, one pending request per step. -/
theorem countersNeverDecreaseBetweenResets : Obligations.CountersNeverDecreaseBetweenResets := by
  refine ⟨fun k s t ran hreq => run_counters_le ran hreq,
    fun i s t h cfg cellAll cellOne auxAll auxOne statAll statOne reset chip c => ?_⟩
  refine ((exec_countersKept ?_ h).2 chip c).symm
  cases i with
  | readCfg r => exact absurd rfl (cfg r)
  | readCellOne k => exact absurd rfl (cellOne k)
  | readAuxOne k => exact absurd rfl (auxOne k)
  | readStatOne k => exact absurd rfl (statOne k)
  | readCellAll | readAuxAll | readStatAll | resetCounters => contradiction
  | _ => rfl

end Sys2Proof.Machine
end

section
/-! PROOFS. READ_*_ALL reads its sub-registers in ascending order until a response of the wrong length
(44_measurement_parser R271). -/

namespace Sys2Proof.Machine

theorem exec_readAllOf (kind : Kind) (s : State) : exec (readAllOf kind) s = .next (readAll kind s) := by
  cases kind <;> rfl

/-- The model's command names give the codes written out in the statements, the default of either past the last one. -/
theorem code_readName (kind : Kind) (k : Nat) (s : State) :
    code s (readName kind k) = subregCode s.cfg.cmdCode kind k := by
  cases kind with
  | cell => match k with | 0 | 1 | 2 | 3 | 4 | 5 | _ + 6 => rfl
  | aux => match k with | 0 | 1 | 2 | 3 | _ + 4 => rfl
  | stat => match k with | 0 | 1 | _ + 2 => rfl

/-! ### The state between two exchanges of the loop -/

/-- The exchange of sub-register k, in a request that starts in s: receive number k of it. -/
def subregEvent (kind : Kind) (s : State) (k : Nat) : Event :=
  .txrx (commandFrame (subregCode s.cfg.cmdCode kind k)) (8 * s.cfg.n) (responseNo s k) (relOf s.link)

/-- The mismatches of the first m sub-registers, in a request that starts in s. -/
def mismatchesBelow (kind : Kind) (s : State) (m : Nat) : List (Nat × Nat) :=
  (List.range m).flatMap fun k => mismatches s.cfg (responseNo s k) (regId kind k)

/-- After the first m sub-registers of a kind are exchanged and stored. -/
def afterSubregs (kind : Kind) (m : Nat) (s : State) : State :=
  { s with
    chips := s.chips.mapIdx fun i c => (List.range m).foldl
      (fun c k => storeMeasurement s.cfg.cntW kind k (groupAt s.cfg (responseNo s k) i) c) c
    trace := s.trace ++ (List.range m).map (subregEvent kind s)
    answers := s.answers.drop m
    draws := s.draws + m }

theorem afterSubregs_zero (kind : Kind) (s : State) : afterSubregs kind 0 s = s := by
  have chips_eq : s.chips.mapIdx (fun _ c => c) = s.chips := List.ext_getElem? fun i => by simp
  simp [afterSubregs, chips_eq]

theorem responseOf_afterSubregs (kind : Kind) (m : Nat) (s : State) :
    responseOf (afterSubregs kind m s) = responseNo s m :=
  responseOf_congr rfl rfl

theorem shapeOk_afterSubregs (kind : Kind) (m : Nat) (s : State) :
    shapeOk (afterSubregs kind m s) = ((responseNo s m).length == 8 * s.cfg.n) := by
  rw [shapeOk, responseOf_afterSubregs]
  rfl

/-- The next exchange, before anything of it is stored. -/
theorem exchange_afterSubregs (kind : Kind) (m : Nat) (s : State) :
    exchange (subregCode s.cfg.cmdCode kind m) (afterSubregs kind m s) =
      { afterSubregs kind m s with
        trace := s.trace ++ (List.range (m + 1)).map (subregEvent kind s)
        answers := s.answers.drop (m + 1)
        draws := s.draws + (m + 1) } := by
  simp only [exchange, busTxRx, responseOf_afterSubregs, List.range_succ, List.map_append, List.map_singleton]
  simp [afterSubregs, subregEvent, linkAfterBus, Nat.add_assoc]

theorem storeAll_exchange_afterSubregs (kind : Kind) (m : Nat) (s : State) :
    storeAll (storeMeasurement s.cfg.cntW kind m) (responseNo s m)
      (exchange (subregCode s.cfg.cmdCode kind m) (afterSubregs kind m s)) = afterSubregs kind (m + 1) s := by
  simp only [exchange_afterSubregs, storeAll]
  simp [afterSubregs, List.range_succ, Function.comp_def]

/-! ### The loop -/

theorem readAllFrom_cons_afterSubregs (kind : Kind) (s : State) (m : Nat) (ks : List Nat) (mism : List (Nat × Nat)) :
    readAllFrom kind (m :: ks) mism (afterSubregs kind m s) =
      if (responseNo s m).length = 8 * s.cfg.n then
        readAllFrom kind ks (mism ++ mismatches s.cfg (responseNo s m) (regId kind m)) (afterSubregs kind (m + 1) s)
      else finish ⟨.shapeError, m, mism⟩ (exchange (subregCode s.cfg.cmdCode kind m) (afterSubregs kind m s)) := by
  rw [readAllFrom, shapeOk_afterSubregs, code_readName, responseOf_afterSubregs]
  simp only [beq_iff_eq]
  rw [← storeAll_exchange_afterSubregs]
  rfl

theorem range'_sub_eq_cons {m n : Nat} (h : m < n) :
    List.range' m (n - m) = m :: List.range' (m + 1) (n - (m + 1)) := by
  rw [show n - m = n - (m + 1) + 1 by omega, List.range'_succ]

/-- While the responses have the right length the loop goes on to the next sub-register. -/
theorem readAllFrom_range_eq (kind : Kind) (s : State) {m n : Nat} (hm : m ≤ n)
    (good : ∀ k, k < m → (responseNo s k).length = 8 * s.cfg.n) :
    readAllFrom kind (List.range n) [] s =
      readAllFrom kind (List.range' m (n - m)) (mismatchesBelow kind s m) (afterSubregs kind m s) := by
  induction m with
  | zero => rw [afterSubregs_zero, List.range_eq_range', Nat.sub_zero]; rfl
  | succ m ih =>
    have mism_succ : mismatchesBelow kind s (m + 1) =
        mismatchesBelow kind s m ++ mismatches s.cfg (responseNo s m) (regId kind m) := by
      simp [mismatchesBelow, List.range_succ]
    rw [ih (by omega) fun k hk => good k (by omega), range'_sub_eq_cons (by omega), readAllFrom_cons_afterSubregs,
      if_pos (good m (by omega)), mism_succ]

theorem readAll_of_no_payload (kind : Kind) {s : State} (hpay : s.payload = []) :
    readAll kind s = readAllFrom kind (List.range (subregs s.cfg kind)) [] s :=
  guarded_of_pass _ s (by simp [payloadCheck, hpay])

theorem readAll_of_all_good (kind : Kind) {s : State} (hpay : s.payload = [])
    (good : ∀ k, k < subregs s.cfg kind → (responseNo s k).length = 8 * s.cfg.n) :
    readAll kind s = finish (readResult (mismatchesBelow kind s (subregs s.cfg kind)))
      (afterSubregs kind (subregs s.cfg kind) s) := by
  rw [readAll_of_no_payload kind hpay, readAllFrom_range_eq kind s le_rfl good, Nat.sub_self]
  rfl

theorem readAll_of_first_bad (kind : Kind) {s : State} {m : Nat} (hpay : s.payload = []) (hm : m < subregs s.cfg kind)
    (good : ∀ k, k < m → (responseNo s k).length = 8 * s.cfg.n) (bad : (responseNo s m).length ≠ 8 * s.cfg.n) :
    readAll kind s = finish ⟨.shapeError, m, mismatchesBelow kind s m⟩
      (exchange (subregCode s.cfg.cmdCode kind m) (afterSubregs kind m s)) := by
  rw [readAll_of_no_payload kind hpay, readAllFrom_range_eq kind s hm.le good,
    range'_sub_eq_cons hm, readAllFrom_cons_afterSubregs, if_neg bad]

/-- Settles O53: the loop stands after m sub-registers when it has read m good responses; then it has read all of them,
or the next response ends it before anything of it is stored. -/
theorem readAllReadsUntilAShapeError : Obligations.ReadAllReadsUntilAShapeError := by
  intro kind s m hpay hm good bad
  rw [exec_readAllOf]
  obtain hlt | rfl := Nat.lt_or_eq_of_le hm
  · rw [readAll_of_first_bad kind hpay hlt good (bad hlt), exchange_afterSubregs, if_pos hlt, Nat.min_eq_left hlt]
    rfl
  · rw [readAll_of_all_good kind hpay good, if_neg (Nat.lt_irrefl _), Nat.min_eq_right (Nat.le_succ _)]
    rfl

end Sys2Proof.Machine
end

section
/-! PROOFS. A read response of correct blocks, and the same response with one data byte changed (40_pec15 R144, R146,
44_measurement_parser R285). -/

namespace Sys2Proof.Machine

/-! ### The remainder tells two byte lists apart that differ in one byte -/

theorem foldl_injective {α β : Type} {f : α → β → α} (hf : ∀ b, Function.Injective fun a => f a b) (l : List β) :
    Function.Injective fun a => l.foldl f a := by
  induction l with
  | nil => exact Function.injective_id
  | cons b l ih => exact ih.comp (hf b)

/-- The polynomial has coefficient 0, so bit 0 of the next remainder tells the feedback, and with it the bit shifted
out. -/
theorem pecBit_injective (b : Bool) : Function.Injective fun r => pecBit r b := by
  intro r s h
  have bit_eq (j : Nat) (hj : j < 15) := congrArg (fun v : BitVec 15 => v.getLsbD j) h
  simp only at bit_eq
  have top_eq : r.getLsbD 14 = s.getLsbD 14 := by
    have feedback_eq := bit_eq 0 (by decide)
    rw [getLsbD_pecBit r b (by decide), getLsbD_pecBit s b (by decide)] at feedback_eq
    simpa [pecPoly] using feedback_eq
  refine BitVec.eq_of_getLsbD_eq fun j hj => ?_
  by_cases hj14 : j = 14
  · rw [hj14, top_eq]
  · have shifted_eq := bit_eq (j + 1) (by omega)
    rw [getLsbD_pecBit r b (by omega), getLsbD_pecBit s b (by omega), top_eq] at shifted_eq
    simpa using shifted_eq

theorem pecByte_injective_left (b : Byte) : Function.Injective fun r => pecByte r b :=
  foldl_injective (fun i => pecBit_injective (b.getLsbD i)) _

/-- Eight bits are too few for the feedback of degree 15 to cancel what they brought in. -/
theorem pecByte_zero_ne_zero : ∀ e : Byte, e ≠ 0 → pecByte 0 e ≠ 0 := by
  decide

theorem pecByte_injective_right (r : BitVec 15) : Function.Injective (pecByte r) := by
  intro a b h
  by_contra hne
  have diff_ne : a ^^^ b ≠ 0 := fun h0 => hne (BitVec.xor_eq_zero_iff.mp h0)
  refine pecByte_zero_ne_zero _ diff_ne ?_
  calc pecByte 0 (a ^^^ b) = pecByte (r ^^^ r) (a ^^^ b) := by rw [BitVec.xor_self]; rfl
    _ = pecByte r a ^^^ pecByte r b := pecByte_xor r r a b
    _ = 0 := by rw [h, BitVec.xor_self]; rfl

theorem pec15_set_ne {l : List Byte} {b : Nat} {v : Byte} (hb : b < l.length) (hv : v ≠ l[b]) :
    pec15 (l.set b v) ≠ pec15 l := by
  have l_split : l = l.take b ++ l[b] :: l.drop (b + 1) := by simp
  rw [List.set_eq_take_cons_drop v hb]
  conv_rhs => rw [l_split]
  simp only [pec15, List.foldl_append, List.foldl_cons]
  exact fun h => hv (pecByte_injective_right _ (foldl_injective pecByte_injective_left _ h))

theorem pec16_set_ne {l : List Byte} {b : Nat} {v : Byte} (hb : b < l.length) (hv : v ≠ l[b]) :
    pec16 (l.set b v) ≠ pec16 l := by
  intro h
  refine pec15_set_ne hb hv (BitVec.eq_of_getLsbD_eq fun j hj => ?_)
  have bit_eq := congrArg (fun w : BitVec 16 => w.getLsbD (j + 1)) h
  simpa [pec16, show j + 1 < 16 by omega, show j < 16 by omega] using bit_eq

/-! ### Groups with the PEC of their data as sent -/

/-- Six data bytes and their correct PEC. -/
def correctGroup (d : Vector Byte 6) : Group where
  data := d
  h := (pec16 d.toList).extractLsb' 8 8
  l := (pec16 d.toList).extractLsb' 0 8

/-- The same group with data byte b received as v, its PEC as sent. -/
def Group.setByte (g : Group) (b : Nat) (v : Byte) : Group :=
  { g with data := g.data.setIfInBounds b v }

theorem joinBytes_extract (x : BitVec 16) :
    ((x.extractLsb' 8 8).setWidth 16 <<< 8) ||| (x.extractLsb' 0 8).setWidth 16 = x := by
  ext j hj
  interval_cases j <;> simp

/-- The check against the PEC bytes of other data compares the two PECs. -/
theorem pecOk_extract (data sent : List Byte) :
    pecOk data ((pec16 sent).extractLsb' 8 8) ((pec16 sent).extractLsb' 0 8) = (pec16 data == pec16 sent) := by
  rw [pecOk, joinBytes_extract]

theorem groupOk_correctGroup (d : Vector Byte 6) : groupOk (correctGroup d) = true := by
  rw [groupOk, correctGroup, pecOk_extract, beq_self_eq_true]

theorem groupOk_setByte_correctGroup {d : Vector Byte 6} {b : Nat} {v : Byte} (hb : b < 6) (hv : v ≠ d[b]) :
    groupOk ((correctGroup d).setByte b v) = false := by
  have bytes_set : (d.setIfInBounds b v).toList = d.toList.set b v := by simp
  rw [groupOk, Group.setByte, correctGroup, pecOk_extract, bytes_set]
  exact beq_false_of_ne (pec16_set_ne (by simpa using hb) (by simpa using hv))

/-! ### The groups of a response -/

theorem getElem?_flatMap_blocks {n : Nat} {f : Nat → List Byte} (hf : ∀ j, j < n → (f j).length = 8) {j m : Nat}
    (hj : j < n) (hm : m < 8) : ((List.range n).flatMap f)[8 * j + m]? = (f j)[m]? := by
  rw [← flatMap_blocks_get hf hj, List.getElem?_take_of_lt hm, List.getElem?_drop]

theorem correctBlock_length (d : Vector Byte 6) : (d.toList ++ pecBytes d.toList).length = 8 := by
  simp

theorem correctResponse_length (n : Nat) (data : Nat → Vector Byte 6) : (correctResponse n data).length = 8 * n :=
  flatMap_blocks_length fun j _ => correctBlock_length (data j)

theorem groupAt_correctResponse {cfg : Cfg} (data : Nat → Vector Byte 6) {i : Nat} (hi : i < cfg.n) :
    groupAt cfg (correctResponse cfg.n data) i = correctGroup (data (pos cfg i)) := by
  have byte_eq (m : Nat) (hm : m < 8) : (correctResponse cfg.n data)[8 * pos cfg i + m]? =
      ((data (pos cfg i)).toList ++ pecBytes (data (pos cfg i)).toList)[m]? :=
    getElem?_flatMap_blocks (fun j _ => correctBlock_length (data j)) (pos_lt hi) hm
  have data_eq : (Vector.ofFn fun m : Fin 6 => (correctResponse cfg.n data)[8 * pos cfg i + m.val]?.getD 0) =
      data (pos cfg i) := by
    ext m hm
    rw [Vector.getElem_ofFn, byte_eq m (by omega), List.getElem?_append_left (by simpa using hm)]
    simp [hm]
  rw [groupAt, correctGroup, data_eq, byte_eq 6 (by decide), byte_eq 7 (by decide),
    List.getElem?_append_right (by simp), List.getElem?_append_right (by simp)]
  simp [pecBytes]

theorem groupAt_set_self {cfg : Cfg} {response : List Byte} {i b : Nat} (v : Byte) (hb : b < 6)
    (hlen : 8 * pos cfg i + b < response.length) :
    groupAt cfg (response.set (8 * pos cfg i + b) v) i = (groupAt cfg response i).setByte b v := by
  have data_eq : (groupAt cfg (response.set (8 * pos cfg i + b) v) i).data =
      (groupAt cfg response i).data.setIfInBounds b v := by
    ext m hm
    by_cases hmb : b = m
    · subst hmb; simp [groupAt, hlen]
    · simp [groupAt, hmb, List.getElem?_set_ne]
  rw [Group.setByte, ← data_eq]
  simp [groupAt, List.getElem?_set_ne, show b ≠ 6 by omega, show b ≠ 7 by omega]

/-- A byte of another chip's block is none of this chip's. -/
theorem groupAt_set_of_pos_ne {cfg : Cfg} {i j b : Nat} (response : List Byte) (v : Byte) (hb : b < 8)
    (hpos : pos cfg i ≠ pos cfg j) :
    groupAt cfg (response.set (8 * pos cfg i + b) v) j = groupAt cfg response j := by
  have byte_eq (m : Nat) (hm : m < 8) :
      (response.set (8 * pos cfg i + b) v)[8 * pos cfg j + m]? = response[8 * pos cfg j + m]? :=
    List.getElem?_set_ne (by omega)
  have data_eq : (groupAt cfg (response.set (8 * pos cfg i + b) v) j).data = (groupAt cfg response j).data := by
    ext m hm
    simp [groupAt, byte_eq m (by omega)]
  simp only [groupAt, byte_eq 6 (by decide), byte_eq 7 (by decide)] at data_eq ⊢
  rw [data_eq]

/-! ### Mismatches -/

theorem mismatches_eq_nil {cfg : Cfg} {response : List Byte} (id : Nat)
    (ok : ∀ i, i < cfg.n → groupOk (groupAt cfg response i) = true) : mismatches cfg response id = [] := by
  have none_bad : (List.range cfg.n).filter (fun i => !groupOk (groupAt cfg response i)) = [] := by
    simpa using ok
  rw [mismatches, none_bad, List.map_nil]

theorem mismatches_eq_singleton {cfg : Cfg} {response : List Byte} {i : Nat} (id : Nat) (hi : i < cfg.n)
    (bad : groupOk (groupAt cfg response i) = false)
    (ok : ∀ j, j < cfg.n → j ≠ i → groupOk (groupAt cfg response j) = true) :
    mismatches cfg response id = [(i, id)] := by
  have bad_iff (j : Nat) (hj : j ∈ List.range cfg.n) : (!groupOk (groupAt cfg response j)) = (j == i) := by
    by_cases hji : j = i
    · simp [hji, bad]
    · simp [hji, ok j (List.mem_range.mp hj) hji]
  rw [mismatches, List.filter_congr bad_iff, List.filter_beq,
    List.count_eq_one_of_mem List.nodup_range (List.mem_range.mpr hi)]
  rfl

end Sys2Proof.Machine
end

section
/-! PROOFS. What storing one received group of a measurement kind does to a chip's codes and flags
(44_measurement_parser R263 to R266). -/

namespace Sys2Proof.Machine

/-- How many sub-registers of a kind a chip has room for (10_state R36 to R43). -/
def maxSubregs : Kind → Nat
  | .cell => 6
  | .aux => 4
  | .stat => 2

theorem subregs_le_maxSubregs {cfg : Cfg} (wf : configWellFormed cfg = true) (kind : Kind) :
    subregs cfg kind ≤ maxSubregs kind := by
  simp only [configWellFormed, Bool.and_eq_true, decide_eq_true_eq] at wf
  obtain ⟨⟨⟨⟨⟨⟨⟨-, cell_range⟩, aux_range⟩, stat_range⟩, -⟩, -⟩, -⟩, -⟩ := wf
  cases kind with
  | cell => exact cell_range.2
  | aux => exact aux_range.2
  | stat => exact stat_range.2

/-! ### The codes of a group -/

theorem le16_eq_codeOf (lo hi : Byte) : le16 lo hi = codeOf lo hi := by
  have lo_lt : lo.toNat < 2 ^ 8 := lo.isLt
  have hi_lt : hi.toNat < 2 ^ 8 := hi.isLt
  have high_part : (hi.setWidth 16 <<< 8).toNat = 2 ^ 8 * hi.toNat := by
    rw [BitVec.toNat_shiftLeft, BitVec.toNat_setWidth_of_le (by decide), Nat.shiftLeft_eq]
    omega
  apply BitVec.eq_of_toNat_eq
  calc (le16 lo hi).toNat = 2 ^ 8 * hi.toNat ||| lo.toNat := by
        rw [le16, BitVec.toNat_or, BitVec.toNat_setWidth_of_le (by decide), high_part, Nat.or_comm]
    _ = 2 ^ 8 * hi.toNat + lo.toNat := (Nat.two_pow_add_eq_or_of_lt lo_lt hi.toNat).symm
    _ = (codeOf lo hi).toNat := by
        rw [codeOf, BitVec.toNat_ofNat]
        omega

theorem groupCode_eq_codeOf (g : Group) (m : Nat) :
    groupCode g m = codeOf (byteAt g.data.toList (2 * m)) (byteAt g.data.toList (2 * m + 1)) := by
  rw [groupCode, le16_eq_codeOf, byteAt, byteAt, Vector.getElem?_toList, Vector.getElem?_toList]

/-- Three consecutive slots from a on take f 0, f 1 and f 2; no other slot changes. -/
theorem getElem?_setThree {n a : Nat} (v : Vector U16 n) (f : Nat → U16) (ha : a + 3 ≤ n) (slot : Nat) :
    (((v.setIfInBounds a (f 0)).setIfInBounds (a + 1) (f 1)).setIfInBounds (a + 2) (f 2))[slot]? =
      if a ≤ slot ∧ slot < a + 3 then some (f (slot - a)) else v[slot]? := by
  split
  case isTrue h =>
    obtain ⟨m, rfl⟩ : ∃ m, slot = a + m := ⟨slot - a, by omega⟩
    have hm : m < 3 := by omega
    interval_cases m <;> simp [Vector.getElem?_setIfInBounds] <;> omega
  case isFalse h =>
    rw [Vector.getElem?_setIfInBounds_ne (by omega), Vector.getElem?_setIfInBounds_ne (by omega),
      Vector.getElem?_setIfInBounds_ne (by omega)]

section
variable {kind : Kind} {k : Nat}

/-- The flag and the counters aside, a store is the decoding. -/
theorem storeMeasurement_codes (w : Nat) (kind : Kind) (k : Nat) (g : Group) (c : Chip) :
    (storeMeasurement w kind k g c).cellCodes = (decodeGroup kind k g c).cellCodes ∧
    (storeMeasurement w kind k g c).auxCodes = (decodeGroup kind k g c).auxCodes ∧
    (storeMeasurement w kind k g c).statCodes = (decodeGroup kind k g c).statCodes ∧
    (storeMeasurement w kind k g c).statFlags = (decodeGroup kind k g c).statFlags ∧
    (storeMeasurement w kind k g c).statThsd = (decodeGroup kind k g c).statThsd ∧
    (storeMeasurement w kind k g c).statMuxFail = (decodeGroup kind k g c).statMuxFail := by
  rw [storeMeasurement_eq]
  cases kind <;> simp only [setKindFlag, and_self]

theorem statCodes_decodeGroup_zero (g : Group) (c : Chip) : (decodeGroup .stat 0 g c).statCodes =
    ((c.statCodes.setIfInBounds 0 (groupCode g 0)).setIfInBounds (0 + 1) (groupCode g 1)).setIfInBounds (0 + 2)
      (groupCode g 2) := rfl

theorem statCodes_decodeGroup_one (g : Group) (c : Chip) :
    (decodeGroup .stat 1 g c).statCodes = c.statCodes.setIfInBounds 3 (groupCode g 0) := rfl

theorem holdsDecoded_decodeGroup (hk : k < maxSubregs kind) (g : Group) (c : Chip) :
    holdsDecoded kind k g.data.toList (decodeGroup kind k g c) := by
  cases kind with
  | cell | aux =>
    simp only [maxSubregs] at hk
    intro m hm
    simp only [decodeGroup]
    rw [getElem?_setThree _ (groupCode g) (by omega), if_pos (by omega), Nat.add_sub_cancel_left, groupCode_eq_codeOf]
  | stat =>
    have room : k < 2 := hk
    obtain rfl | rfl : k = 0 ∨ k = 1 := by omega
    · intro m hm
      rw [statCodes_decodeGroup_zero, getElem?_setThree _ (groupCode g) (by decide), if_pos (by omega), Nat.sub_zero,
        groupCode_eq_codeOf]
    · simp [holdsDecoded, decodeGroup, groupCode_eq_codeOf, byteAt]

theorem otherCodesSame_decodeGroup (hk : k < maxSubregs kind) (g : Group) (c : Chip) :
    otherCodesSame kind k (decodeGroup kind k g c) c := by
  cases kind with
  | cell | aux =>
    simp only [maxSubregs] at hk
    simp only [otherCodesSame, decodeGroup, or_true, implies_true, true_and, and_true]
    refine fun slot => or_iff_not_imp_left.mpr fun outside => ?_
    rw [getElem?_setThree _ (groupCode g) (by omega), if_neg outside]
  | stat =>
    have room : k < 2 := hk
    obtain rfl | rfl : k = 0 ∨ k = 1 := by omega
    · refine ⟨fun _ => .inr rfl, fun _ => .inr rfl, fun m => or_iff_not_imp_left.mpr fun h => .inr ?_,
        .inr ⟨rfl, rfl, rfl⟩⟩
      have outside : ¬ (0 ≤ m ∧ m < 0 + 3) := fun hm => h ⟨rfl, rfl, by omega⟩
      rw [statCodes_decodeGroup_zero, getElem?_setThree _ (groupCode g) (by decide), if_neg outside]
    · refine ⟨fun _ => .inr rfl, fun _ => .inr rfl, fun m => .inr (or_iff_not_imp_left.mpr fun h => ?_),
        .inl ⟨rfl, rfl⟩⟩
      have outside : 3 ≠ m := fun hm => h ⟨rfl, rfl, hm.symm⟩
      rw [statCodes_decodeGroup_one, Vector.getElem?_setIfInBounds_ne outside]

theorem holdsDecoded_storeMeasurement (hk : k < maxSubregs kind) (w : Nat) (g : Group) (c : Chip) :
    holdsDecoded kind k g.data.toList (storeMeasurement w kind k g c) := by
  obtain ⟨cell_eq, aux_eq, stat_eq, flags_eq, thsd_eq, mux_eq⟩ := storeMeasurement_codes w kind k g c
  have decoded := holdsDecoded_decodeGroup hk g c
  unfold holdsDecoded at *
  rwa [cell_eq, aux_eq, stat_eq, flags_eq, thsd_eq, mux_eq]

theorem otherCodesSame_storeMeasurement (hk : k < maxSubregs kind) (w : Nat) (g : Group) (c : Chip) :
    otherCodesSame kind k (storeMeasurement w kind k g c) c := by
  obtain ⟨cell_eq, aux_eq, stat_eq, flags_eq, thsd_eq, mux_eq⟩ := storeMeasurement_codes w kind k g c
  rw [otherCodesSame, cell_eq, aux_eq, stat_eq, flags_eq, thsd_eq, mux_eq]
  exact otherCodesSame_decodeGroup hk g c

/-! ### The flags -/

theorem pecFlag_decodeGroup (kind : Kind) (k : Nat) (g : Group) (c : Chip) (id : Nat) :
    pecFlag (decodeGroup kind k g c) id = pecFlag c id := by
  cases kind with
  | cell | aux => rfl
  | stat =>
    rw [decodeGroup]
    split <;> rfl

theorem pecFlag_setKindFlag_self (hk : k < maxSubregs kind) (mismatch : Bool) (c : Chip) :
    pecFlag (setKindFlag kind k mismatch c) (regId kind k) = mismatch := by
  cases kind with
  | cell =>
    have room : k < 6 := hk
    simp [pecFlag, setKindFlag, regId, room, show 2 + k ≠ 1 by omega, show 2 + k ≤ 7 by omega]
  | aux =>
    have room : k < 4 := hk
    simp [pecFlag, setKindFlag, regId, room, show 8 + k ≠ 1 by omega, show ¬ 8 + k ≤ 7 by omega,
      show 8 + k ≤ 11 by omega]
  | stat =>
    have room : k < 2 := hk
    simp [pecFlag, setKindFlag, regId, room, show 12 + k ≠ 1 by omega, show ¬ 12 + k ≤ 7 by omega,
      show ¬ 12 + k ≤ 11 by omega]

theorem pecFlag_setKindFlag_of_ne {id : Nat} (hne : id ≠ regId kind k) (mismatch : Bool) (c : Chip) :
    pecFlag (setKindFlag kind k mismatch c) id = pecFlag c id := by
  by_cases h0 : id = 0
  · cases kind <;> simp [pecFlag, setKindFlag, h0]
  by_cases h1 : id = 1
  · cases kind <;> simp [pecFlag, setKindFlag, h1]
  cases kind with
  | cell =>
    have other_slot : k ≠ id - 2 := fun h => hne (by rw [regId]; omega)
    simp [pecFlag, setKindFlag, h0, h1, Vector.getElem?_setIfInBounds_ne other_slot]
  | aux =>
    simp only [pecFlag, setKindFlag, h0, h1, if_false]
    split
    case isTrue => rfl
    case isFalse above_cells =>
      have other_slot : k ≠ id - 8 := fun h => hne (by rw [regId]; omega)
      rw [Vector.getElem?_setIfInBounds_ne other_slot]
  | stat =>
    simp only [pecFlag, setKindFlag, h0, h1, if_false]
    split
    case isTrue => rfl
    case isFalse =>
      split
      case isTrue => rfl
      case isFalse above_aux =>
        have other_slot : k ≠ id - 12 := fun h => hne (by rw [regId]; omega)
        rw [Vector.getElem?_setIfInBounds_ne other_slot]

theorem pecFlag_storeMeasurement_eq (w : Nat) (kind : Kind) (k : Nat) (g : Group) (c : Chip) (id : Nat) :
    pecFlag (storeMeasurement w kind k g c) id =
      pecFlag (setKindFlag kind k (!groupOk g) (decodeGroup kind k g c)) id := by
  rw [storeMeasurement_eq]
  rfl

theorem pecFlag_storeMeasurement_self (hk : k < maxSubregs kind) (w : Nat) (g : Group) (c : Chip) :
    pecFlag (storeMeasurement w kind k g c) (regId kind k) = !groupOk g := by
  rw [pecFlag_storeMeasurement_eq, pecFlag_setKindFlag_self hk]

theorem pecFlag_storeMeasurement_of_ne {id : Nat} (hne : id ≠ regId kind k) (w : Nat) (g : Group) (c : Chip) :
    pecFlag (storeMeasurement w kind k g c) id = pecFlag c id := by
  rw [pecFlag_storeMeasurement_eq, pecFlag_setKindFlag_of_ne hne, pecFlag_decodeGroup]

end

end Sys2Proof.Machine
end

section
/-! PROOFS. READ_*_ONE on a response of correct blocks, and with one data byte of one chip flipped
(44_measurement_parser R285). -/

namespace Sys2Proof.Machine

theorem exec_readOneOf (kind : Kind) (k : BitVec 3) (s : State) :
    exec (readOneOf kind k) s = .next (readSubreg kind k.toNat s) := by
  cases kind <;> rfl

/-- The state after a READ_*_ONE that starts in s and is answered by a response of the right length. -/
def answeredRead (kind : Kind) (k : Nat) (response : List Byte) (rest : List (List Byte)) (s : State) : State :=
  finish (readResult (mismatches s.cfg response (regId kind k)))
    (storeAll (storeMeasurement s.cfg.cntW kind k) response
      (exchange (code s (readName kind k)) { s with answers := response :: rest }))

theorem answeredRead_results (kind : Kind) (k : Nat) (response : List Byte) (rest : List (List Byte)) (s : State) :
    (answeredRead kind k response rest s).results =
      s.results ++ [readResult (mismatches s.cfg response (regId kind k))] := rfl

theorem chipOf_answeredRead (kind : Kind) (k : Nat) (response : List Byte) (rest : List (List Byte)) (s : State)
    (i : Nat) : chipOf (answeredRead kind k response rest s) i =
      if i < s.chips.length then storeMeasurement s.cfg.cntW kind k (groupAt s.cfg response i) (chipOf s i)
      else chipOf s i :=
  chipOf_storeAll _ response (exchange (code s (readName kind k)) { s with answers := response :: rest }) i

section
variable {kind : Kind} {s : State} {response : List Byte} {rest : List (List Byte)}

theorem exec_readOneOf_answered {k : BitVec 3} (hpay : s.payload = []) (hk : k.toNat < subregs s.cfg kind)
    (hlen : response.length = 8 * s.cfg.n) :
    exec (readOneOf kind k) { s with answers := response :: rest } =
      .next (answeredRead kind k.toNat response rest s) := by
  rw [exec_readOneOf, readSubreg, guarded_of_pass _ _ (by simp [fieldCheck, payloadCheck, hpay, Nat.not_le.mpr hk]),
    readOne_of_shapeOk _ _ _ _ (by simpa [shapeOk, responseOf] using hlen)]
  rfl

theorem chipOf_answeredRead_of_lt {k i : Nat} (hi : i < s.chips.length) :
    chipOf (answeredRead kind k response rest s) i =
      storeMeasurement s.cfg.cntW kind k (groupAt s.cfg response i) (chipOf s i) := by
  rw [chipOf_answeredRead, if_pos hi]

/-- No read writes a flag of another sub-register. -/
theorem pecFlag_answeredRead_of_ne {k id : Nat} (hne : id ≠ regId kind k) (i : Nat) :
    pecFlag (chipOf (answeredRead kind k response rest s) i) id = pecFlag (chipOf s i) id := by
  rw [chipOf_answeredRead]
  split
  case isTrue => exact pecFlag_storeMeasurement_of_ne hne _ _ _
  case isFalse => rfl

theorem otherCodesSame_refl (kind : Kind) (k : Nat) (c : Chip) : otherCodesSame kind k c c :=
  ⟨fun _ => .inr rfl, fun _ => .inr rfl, fun _ => .inr (.inr rfl), .inr ⟨rfl, rfl, rfl⟩⟩

/-- No read writes a code of another sub-register. -/
theorem otherCodesSame_answeredRead {k : Nat} (hk : k < maxSubregs kind) (i : Nat) :
    otherCodesSame kind k (chipOf (answeredRead kind k response rest s) i) (chipOf s i) := by
  rw [chipOf_answeredRead]
  split
  case isTrue => exact otherCodesSame_storeMeasurement hk _ _ _
  case isFalse => exact otherCodesSame_refl kind k _

end

/-! ### One flipped byte -/

/-- The response of correct blocks with byte b of chip i's block changed by e (44_measurement_parser R285). -/
def flippedResponse (cfg : Cfg) (data : Nat → Vector Byte 6) (i b : Nat) (e : Byte) : List Byte :=
  (correctResponse cfg.n data).set (8 * pos cfg i + b)
    (byteAt (correctResponse cfg.n data) (8 * pos cfg i + b) ^^^ e)

section
variable {cfg : Cfg} {data : Nat → Vector Byte 6} {i b : Nat} {e : Byte}

theorem flippedResponse_length : (flippedResponse cfg data i b e).length = 8 * cfg.n := by
  rw [flippedResponse, List.length_set, correctResponse_length]

theorem byteAt_correctResponse (hi : i < cfg.n) (hb : b < 6) :
    byteAt (correctResponse cfg.n data) (8 * pos cfg i + b) = (data (pos cfg i))[b] := by
  rw [byteAt, correctResponse, getElem?_flatMap_blocks (fun j _ => correctBlock_length (data j)) (pos_lt hi) (by omega),
    List.getElem?_append_left (by simpa using hb)]
  simp [hb]

theorem groupAt_flippedResponse_self (hi : i < cfg.n) (hb : b < 6) :
    groupAt cfg (flippedResponse cfg data i b e) i =
      (correctGroup (data (pos cfg i))).setByte b ((data (pos cfg i))[b] ^^^ e) := by
  have pos_lt_n : pos cfg i < cfg.n := pos_lt hi
  rw [flippedResponse, groupAt_set_self _ hb (by rw [correctResponse_length]; omega), groupAt_correctResponse data hi,
    byteAt_correctResponse hi hb]

theorem groupAt_flippedResponse_of_ne (wf : configWellFormed cfg = true) (hi : i < cfg.n) (hb : b < 6) {j : Nat}
    (hj : j < cfg.n) (hji : j ≠ i) :
    groupAt cfg (flippedResponse cfg data i b e) j = correctGroup (data (pos cfg j)) := by
  have pos_ne : pos cfg i ≠ pos cfg j := fun h => hji (eq_of_pos_eq wf hi hj h).symm
  rw [flippedResponse, groupAt_set_of_pos_ne _ _ (by omega) pos_ne, groupAt_correctResponse data hj]

theorem groupOk_flippedResponse_self (hi : i < cfg.n) (hb : b < 6) (he : e ≠ 0) :
    groupOk (groupAt cfg (flippedResponse cfg data i b e) i) = false := by
  rw [groupAt_flippedResponse_self hi hb]
  refine groupOk_setByte_correctGroup hb fun unchanged => he ?_
  exact (BitVec.xor_right_inj _).mp (unchanged.trans BitVec.xor_zero.symm)

end

/-! ### The two reads -/

section
variable {kind : Kind} {k : Nat} {s : State} {data : Nat → Vector Byte 6} {rest : List (List Byte)} {i b : Nat}
  {e : Byte}

/-- The read of the unchanged response. -/
abbrev correctRead (kind : Kind) (k : Nat) (data : Nat → Vector Byte 6) (rest : List (List Byte)) (s : State) : State :=
  answeredRead kind k (correctResponse s.cfg.n data) rest s

/-- The read of the response with byte b of chip i's block changed by e. -/
abbrev flippedRead (kind : Kind) (k : Nat) (data : Nat → Vector Byte 6) (i b : Nat) (e : Byte)
    (rest : List (List Byte)) (s : State) : State :=
  answeredRead kind k (flippedResponse s.cfg data i b e) rest s

theorem correctRead_results :
    (correctRead kind k data rest s).results = s.results ++ [⟨.ok, 0, []⟩] := by
  have all_ok (i : Nat) (hi : i < s.cfg.n) : groupOk (groupAt s.cfg (correctResponse s.cfg.n data) i) = true := by
    rw [groupAt_correctResponse data hi, groupOk_correctGroup]
  rw [answeredRead_results, mismatches_eq_nil _ all_ok]
  rfl

theorem chipOf_correctRead (hlen : s.chips.length = s.cfg.n) (hi : i < s.cfg.n) :
    chipOf (correctRead kind k data rest s) i =
      storeMeasurement s.cfg.cntW kind k (correctGroup (data (pos s.cfg i))) (chipOf s i) := by
  rw [chipOf_answeredRead_of_lt (hlen ▸ hi), groupAt_correctResponse data hi]

theorem flippedRead_results (wf : configWellFormed s.cfg = true) (hi : i < s.cfg.n) (hb : b < 6) (he : e ≠ 0) :
    (flippedRead kind k data i b e rest s).results = s.results ++ [⟨.pecMismatch, 1, [(i, regId kind k)]⟩] := by
  have others_ok (j : Nat) (hj : j < s.cfg.n) (hji : j ≠ i) :
      groupOk (groupAt s.cfg (flippedResponse s.cfg data i b e) j) = true := by
    rw [groupAt_flippedResponse_of_ne wf hi hb hj hji, groupOk_correctGroup]
  rw [answeredRead_results, mismatches_eq_singleton _ hi (groupOk_flippedResponse_self hi hb he) others_ok]
  rfl

theorem pecFlag_flippedRead_self (hlen : s.chips.length = s.cfg.n) (hk : k < maxSubregs kind) (hi : i < s.cfg.n)
    (hb : b < 6) (he : e ≠ 0) : pecFlag (chipOf (flippedRead kind k data i b e rest s) i) (regId kind k) = true := by
  rw [chipOf_answeredRead_of_lt (hlen ▸ hi), pecFlag_storeMeasurement_self hk, groupOk_flippedResponse_self hi hb he]
  rfl

/-- Match or not, the codes are those received (44_measurement_parser R262). -/
theorem holdsDecoded_flippedRead_self (hlen : s.chips.length = s.cfg.n) (hk : k < maxSubregs kind) (hi : i < s.cfg.n)
    (hb : b < 6) :
    holdsDecoded kind k ((data (pos s.cfg i)).toList.set b (byteAt (data (pos s.cfg i)).toList b ^^^ e))
      (chipOf (flippedRead kind k data i b e rest s) i) := by
  have received : (data (pos s.cfg i)).toList.set b (byteAt (data (pos s.cfg i)).toList b ^^^ e) =
      ((correctGroup (data (pos s.cfg i))).setByte b ((data (pos s.cfg i))[b] ^^^ e)).data.toList := by
    simp [Group.setByte, correctGroup, byteAt, hb]
  rw [chipOf_answeredRead_of_lt (hlen ▸ hi), groupAt_flippedResponse_self hi hb, received]
  exact holdsDecoded_storeMeasurement hk _ _ _

theorem chipOf_flippedRead_of_ne (hlen : s.chips.length = s.cfg.n) (wf : configWellFormed s.cfg = true)
    (hi : i < s.cfg.n) (hb : b < 6) {j : Nat} (hji : j ≠ i) :
    chipOf (flippedRead kind k data i b e rest s) j = chipOf (correctRead kind k data rest s) j := by
  rw [chipOf_answeredRead, chipOf_answeredRead]
  split
  case isTrue hj =>
    rw [groupAt_flippedResponse_of_ne wf hi hb (hlen ▸ hj) hji, groupAt_correctResponse data (hlen ▸ hj)]
  case isFalse => rfl

end

/-- Settles O56: the PEC as sent is the one of each unchanged block, and not the one of the changed block; what a
block's group stores then says the rest. -/
theorem correctResponsesDecodeAndOneFlippedByteIsFlagged :
    Obligations.CorrectResponsesDecodeAndOneFlippedByteIsFlagged := by
  intro kind k s data rest hpay hlen wf hk
  have hkmax : k.toNat < maxSubregs kind := hk.trans_le (subregs_le_maxSubregs wf kind)
  refine ⟨correctRead kind k.toNat data rest s, exec_readOneOf_answered hpay hk (correctResponse_length _ data),
    correctRead_results, fun i hi => ?correct_chip, fun i b e hi hb he => ?flipped⟩
  case correct_chip =>
    rw [chipOf_correctRead hlen hi, pecFlag_storeMeasurement_self hkmax, groupOk_correctGroup]
    exact ⟨holdsDecoded_storeMeasurement hkmax _ (correctGroup (data (pos s.cfg i))) _, rfl⟩
  case flipped =>
    exact ⟨flippedRead kind k.toNat data i b e rest s, exec_readOneOf_answered hpay hk flippedResponse_length,
      flippedRead_results wf hi hb he, pecFlag_flippedRead_self hlen hkmax hi hb he,
      holdsDecoded_flippedRead_self hlen hkmax hi hb, fun j hji => chipOf_flippedRead_of_ne hlen wf hi hb hji,
      fun j id _ hne => pecFlag_answeredRead_of_ne hne j, otherCodesSame_answeredRead hkmax⟩

end Sys2Proof.Machine
end

section
/-! PROOFS. Every request ends after a bounded number of bus events (70_reset_and_hazards R391), and POLL against a silent
bus at exactly its bound (45_conversion R317). -/

namespace Sys2Proof.Machine

/-! ### Counting the bus events from one state to another -/

/-- The trace grows by at most b events from s to t, and keeps what it had. -/
def EmitsAtMost (b : Nat) (s t : State) : Prop :=
  ∃ es, t.trace = s.trace ++ es ∧ es.length ≤ b

theorem EmitsAtMost.of_trace_eq {s t : State} (h : t.trace = s.trace) (b : Nat) : EmitsAtMost b s t :=
  ⟨[], by rw [h, List.append_nil], Nat.zero_le b⟩

theorem EmitsAtMost.one {s t : State} {e : Event} (h : t.trace = s.trace ++ [e]) : EmitsAtMost 1 s t :=
  ⟨[e], h, le_rfl⟩

theorem EmitsAtMost.mono {a b : Nat} {s t : State} (h : EmitsAtMost a s t) (hab : a ≤ b) : EmitsAtMost b s t := by
  obtain ⟨es, trace_eq, len⟩ := h
  exact ⟨es, trace_eq, len.trans hab⟩

theorem EmitsAtMost.trans {a b : Nat} {s t u : State} (hst : EmitsAtMost a s t) (htu : EmitsAtMost b t u) :
    EmitsAtMost (a + b) s u := by
  obtain ⟨es, trace_t, len_es⟩ := hst
  obtain ⟨fs, trace_u, len_fs⟩ := htu
  refine ⟨es ++ fs, by rw [trace_u, trace_t, List.append_assoc], ?_⟩
  rw [List.length_append]
  exact Nat.add_le_add len_es len_fs

/-! ### The shapes of a request -/

theorem guarded_emitsAtMost {b : Nat} {s : State} (checks : List (Bool × Reason)) {body : State → State}
    (hbody : EmitsAtMost b s (body s)) : EmitsAtMost b s (guarded checks body s) := by
  obtain passed | ⟨r, -, failed⟩ := guarded_cases checks body s
  · rwa [passed]
  · rw [failed]
    exact .of_trace_eq rfl b

theorem readOne_emitsAtMost (c : CmdCode) (k id : Nat) (store : Group → Chip → Chip) (s : State) :
    EmitsAtMost 1 s (readOne c k id store s) := by
  obtain stored | shape := readOne_cases c k id store s
  · rw [stored]
    exact .one (exchange_trace c s)
  · rw [shape]
    exact .one (exchange_trace c s)

/-- One exchange per sub-register, and fewer after a SHAPE. -/
theorem readAllFrom_emitsAtMost (kind : Kind) (ks : List Nat) (mism : List (Nat × Nat)) (s : State) :
    EmitsAtMost ks.length s (readAllFrom kind ks mism s) := by
  induction ks generalizing mism s with
  | nil => exact .of_trace_eq rfl 0
  | cons k ks ih =>
    have exchanged : EmitsAtMost 1 s (exchange (code s (readName kind k)) s) := .one (exchange_trace _ s)
    rw [readAllFrom, List.length_cons, Nat.add_comm]
    split
    case isTrue => exact exchanged.trans (ih _ (storeAll _ _ (exchange _ s)))
    case isFalse => exact exchanged.mono (Nat.le_add_right 1 _)

theorem readAll_emitsAtMost (kind : Kind) (s : State) : EmitsAtMost (subregs s.cfg kind) s (readAll kind s) := by
  have read := readAllFrom_emitsAtMost kind (List.range (subregs s.cfg kind)) [] s
  rw [List.length_range] at read
  exact guarded_emitsAtMost _ read

theorem readSubreg_emitsAtMost (kind : Kind) (k : Nat) (s : State) : EmitsAtMost 1 s (readSubreg kind k s) :=
  guarded_emitsAtMost _ (readOne_emitsAtMost _ k _ _ s)

theorem repeatStep_emitsAtMost {b : Nat} {f : State → State} (hf : ∀ s, EmitsAtMost b s (f s)) (n : Nat) (s : State) :
    EmitsAtMost (b * n) s (repeatStep f n s) := by
  induction n generalizing s with
  | zero => exact .of_trace_eq rfl _
  | succ n ih =>
    rw [repeatStep, Nat.mul_succ, Nat.add_comm]
    exact (hf s).trans (ih (f s))

theorem idleFillOnce_emitsAtMost (s : State) : EmitsAtMost 1 s (idleFillOnce s) :=
  .one (busFill_trace 1 s)

theorem sleepBurstOnce_emitsAtMost (s : State) : EmitsAtMost 2 s (sleepBurstOnce s) :=
  EmitsAtMost.trans (.one (busFill_trace (wakeSleepBytes s.cfg) s)) (.one (busDelay_trace s.cfg.tPauseUs _))

/-- One fill per pass, and no pass after a non-zero byte. -/
theorem pollFrom_emitsAtMost (left k : Nat) (s : State) : EmitsAtMost left s (pollFrom left k s) := by
  induction left generalizing k s with
  | zero => exact .of_trace_eq rfl 0
  | succ left ih =>
    have filled : EmitsAtMost 1 s (busFill 1 s) := .one (busFill_trace 1 s)
    rw [pollFrom, Nat.add_comm]
    split
    case isTrue => exact filled.trans (ih (k + 1) (busFill 1 s))
    case isFalse => exact filled.mono (Nat.le_add_right 1 left)

/-! ### Every request -/

/-- Every request ends, within the bound of its row (70_reset_and_hazards R391). -/
theorem exec_emitsAtMost (i : Instr) (s : State) :
    ∃ t, exec i s = .next t ∧ EmitsAtMost (eventBound s.cfg i) s t := by
  cases i with
  | pecCalc | getCfgA | getCfgB | getComm | getCell | getAux | getStat | getPecFlag | getCounter | setRefonA | setRefonB
  | setAdcoptA | setAdcoptB | setGpioA | setGpioB | setUvA | setUvB | setOvA | setOvB | setDccA | setDccB | setDctoA
  | setDctoB | setComm | resetCounters =>
    exact ⟨_, rfl, guarded_emitsAtMost _ (.of_trace_eq rfl 0)⟩
  | sendCmd | writeCfg | writeComm | startAdcv | startAdax | startAdstat =>
    exact ⟨_, rfl, guarded_emitsAtMost _ (.one (busTx_trace _ s))⟩
  | readCfg | readComm => exact ⟨_, rfl, guarded_emitsAtMost _ (readOne_emitsAtMost _ _ _ _ s)⟩
  | readCellOne | readAuxOne | readStatOne => exact ⟨_, rfl, readSubreg_emitsAtMost _ _ s⟩
  | readCellAll => exact ⟨_, rfl, readAll_emitsAtMost .cell s⟩
  | readAuxAll => exact ⟨_, rfl, readAll_emitsAtMost .aux s⟩
  | readStatAll => exact ⟨_, rfl, readAll_emitsAtMost .stat s⟩
  | wakeIdle =>
    have filled := (repeatStep_emitsAtMost idleFillOnce_emitsAtMost s.cfg.n s).mono (Nat.one_mul _).le
    exact ⟨_, rfl, guarded_emitsAtMost _ filled⟩
  | wakeSleep => exact ⟨_, rfl, guarded_emitsAtMost _ (repeatStep_emitsAtMost sleepBurstOnce_emitsAtMost s.cfg.n s)⟩
  | poll =>
    have sent : EmitsAtMost 1 s (busTx (commandFrame (code s .pladc)) s) := .one (busTx_trace _ s)
    exact ⟨_, rfl, guarded_emitsAtMost _ (sent.trans (pollFrom_emitsAtMost _ 1 _))⟩

/-! ### POLL on a silent bus -/

theorem exec_poll_of_no_payload {s : State} (hpay : s.payload = []) :
    exec .poll s = .next (pollFrom s.cfg.pollMax 1 (busTx (commandFrame s.cfg.cmdCode.pladc) s)) :=
  congrArg Host.Outcome.next (guarded_of_pass _ s (by simp [payloadCheck, hpay]))

theorem fillNo_one (s : State) (j : Nat) : fillNo 1 s j = [pollByte s j] := rfl

theorem fillNo_busTx (n : Nat) (bytes : List Byte) (s : State) (j : Nat) :
    fillNo n (busTx bytes s) j = fillNo n s j :=
  fillOf_congr rfl rfl

/-- Settles O60: on a silent bus the loop runs out after POLL_MAX fills, each one receiving 0x00; and no loop of any
request emits more than its bound. -/
theorem pollTimesOutAtItsBound : Obligations.PollTimesOutAtItsBound := by
  refine ⟨fun s hpay silent => ?timeout, fun i s => ?bound⟩
  case timeout =>
    have filled : ∀ j, j < s.cfg.pollMax → fillNo 1 (busTx (commandFrame s.cfg.cmdCode.pladc) s) j = [0x00] :=
      fun j hj => by rw [fillNo_busTx, fillNo_one, silent j hj]
    have fills_eq : (List.range s.cfg.pollMax).map (fun j =>
          Event.fill 1 (fillNo 1 (busTx (commandFrame s.cfg.cmdCode.pladc) s) j) (relOf s.link)) =
        (List.range s.cfg.pollMax).map fun _ => .fill 1 [0x00] (relOf s.link) :=
      List.map_congr_left fun j hj => by rw [filled j (List.mem_range.mp hj)]
    rw [exec_poll_of_no_payload hpay, pollFrom_timeout _ 1 _ fun j hj => by rw [filled j hj]; rfl, busTx_link, fills_eq]
    rfl
  case bound =>
    obtain ⟨t, ran, es, trace_eq, len⟩ := exec_emitsAtMost i s
    exact ⟨t, es, ran, trace_eq, len⟩

end Sys2Proof.Machine
end

section
/-! PROOFS. A word with an assigned OP is decoded exactly when it matches the mask of its row of the opcode table
(30_encoding R102, R103 (a), R114). -/

namespace Sys2Proof.Machine

/-! ### Reserved fields as masks -/

/-- A 1 at each of the `len` bits of a word from bit `lo` on. -/
def fieldMask (lo len : Nat) : RequestWord :=
  (BitVec.allOnes len).setWidth 32 <<< lo

theorem getLsbD_fieldMask (lo len : Nat) {j : Nat} (hj : j < 32) :
    (fieldMask lo len).getLsbD j = decide (lo ≤ j ∧ j < lo + len) := by
  simp only [fieldMask, BitVec.getLsbD_shiftLeft, BitVec.getLsbD_setWidth, BitVec.getLsbD_allOnes]
  grind

theorem extractLsb'_eq_zero_iff (w : RequestWord) (lo len : Nat) :
    w.extractLsb' lo len = 0 ↔ w &&& fieldMask lo len = 0 := by
  constructor
  · intro field_zero
    refine BitVec.eq_of_getLsbD_eq fun j hj => ?_
    have bit_zero := congrArg (·.getLsbD (j - lo)) field_zero
    simp only [BitVec.getLsbD_extractLsb', BitVec.ofNat_eq_ofNat, BitVec.getLsbD_zero] at bit_zero
    rw [BitVec.getLsbD_and, getLsbD_fieldMask lo len hj]
    grind
  · intro masked_zero
    refine BitVec.eq_of_getLsbD_eq fun j hj => ?_
    have bit_zero := congrArg (·.getLsbD (lo + j)) masked_zero
    rw [BitVec.getLsbD_extractLsb']
    by_cases inside : lo + j < 32
    · simpa [getLsbD_fieldMask lo len inside, hj] using bit_zero
    · simp [BitVec.getLsbD_of_ge w (lo + j) (by omega)]

theorem and_or_eq_zero_iff (w a b : RequestWord) : w &&& (a ||| b) = 0 ↔ w &&& a = 0 ∧ w &&& b = 0 := by
  rw [BitVec.and_or_distrib_left]
  exact BitVec.or_eq_zero_iff

theorem opOf_shiftLeft (w : RequestWord) : (opOf w).setWidth 32 <<< 24 = w &&& 0xFF000000 := by
  ext j hj
  interval_cases j <;> simp [opOf]

/-- A mask of 30_encoding R114 is the OP byte and the reserved bits; only the reserved bits can fail to match. -/
theorem wordMatches_iff {w m : RequestWord} {mask : Nat} (hmask : BitVec.ofNat 32 mask = 0xFF000000 ||| m)
    (hm : 0xFF000000 &&& m = 0) : wordMatches w mask ↔ w &&& m = 0 := by
  rw [wordMatches, hmask, opOf_shiftLeft, BitVec.and_or_distrib_left]
  constructor
  · intro matched
    have absorbed : (w &&& 0xFF000000 ||| w &&& m) &&& m = w &&& m := by
      ext j hj
      simp only [BitVec.getElem_and, BitVec.getElem_or]
      grind
    rw [← absorbed, matched, BitVec.and_assoc, hm]
    exact BitVec.and_zero
  · intro reserved_zero
    rw [reserved_zero]
    exact BitVec.or_zero

/-! ### Check (a) -/

/-- The outcome of decoding a word with an assigned OP, where `P` says that its reserved bits are 0. -/
def DecodesIff (P : Prop) (r : Except DecodeError Instr) : Prop :=
  (P → ∃ i, r = .ok i) ∧ (¬ P → r = .error .reservedBits)

theorem decodesIff_ok {P : Prop} (hP : P) (i : Instr) : DecodesIff P (.ok i) :=
  ⟨fun _ => ⟨i, rfl⟩, fun hnP => absurd hP hnP⟩

theorem decodesIff_reserved {P : Prop} {zero : Bool} (h : zero = true ↔ P) (i : Instr) :
    DecodesIff P (reserved zero i) := by
  cases zero with
  | false => exact ⟨fun hP => absurd (h.mpr hP) Bool.false_ne_true, fun _ => rfl⟩
  | true => exact decodesIff_ok (h.mp rfl) i

theorem decode_of_unassigned {w : RequestWord} (h : opcodeRows.lookup (opOf w).toNat = none) :
    decode w = .error (.illegalOp (opOf w)) := by
  unfold decode
  split
  case h_43 => rfl
  all_goals
    rename_i op_eq
    rw [op_eq] at h
    cases h

/-- Branches 12, 13, 20 and 21 of the decoder are SET_UV and SET_OV, which have no reserved bit; branch 43 is every OP
outside the map. -/
theorem decodesIff_of_assigned {w : RequestWord} {mask : Nat} (h : opcodeRows.lookup (opOf w).toNat = some mask) :
    DecodesIff (wordMatches w mask) (decode w) := by
  unfold decode
  split
  case h_43 =>
    have unassigned : opcodeRows.lookup (opOf w).toNat = none := by
      rw [List.lookup_eq_none_iff]
      simp_all [opcodeRows]
    rw [unassigned] at h
    cases h
  all_goals
    rename_i op_eq
    rw [op_eq] at h
    cases h
  case h_12 | h_13 | h_20 | h_21 =>
    exact decodesIff_ok ((wordMatches_iff (m := 0) rfl rfl).mpr BitVec.and_zero) _
  all_goals
    refine decodesIff_reserved ?_ _
    simp only [Bool.and_eq_true, beq_iff_eq, extractLsb'_eq_zero_iff, ← and_or_eq_zero_iff]
    exact (wordMatches_iff (by decide) (by decide)).symm

end Sys2Proof.Machine
end

section
/-! PROOFS. A request that fails a check ends in INVALID_PARAM with the code of the first failing one, and a word that
is no request in ILLEGAL_REQUEST or INVALID_PARAM(1) (60_exceptions R342, R343). -/

namespace Sys2Proof.Machine

/-! ### One step on a pending request -/

theorem step_of_pending {s : State} {rq : Request} {rest : List Request} (wf : configWellFormed s.cfg = true)
    (hreq : s.requests = rq :: rest) : step s = runWord rq.word (presented s rq.payload) := by
  rw [step, if_pos wf, hreq]
  rfl

theorem runWord_of_request {w : RequestWord} {i : Instr} (h : decode w = .ok i) (s : State) :
    runWord w s = exec i s := by
  rw [runWord, h]

theorem runWord_of_error {w : RequestWord} {e : DecodeError} (h : decode w = .error e) (s : State) :
    runWord w s = .next (rejectWord e s) := by
  rw [runWord, h]

/-! ### Unassigned OPs -/

/-- The list of 30_encoding R116 (a). -/
abbrev UnassignedOp (op : Nat) : Prop :=
  op = 0 ∨ (0x02 ≤ op ∧ op ≤ 0x0F) ∨ (0x15 ≤ op ∧ op ≤ 0x1F) ∨ (0x22 ≤ op ∧ op ≤ 0x2F) ∨
    (0x42 ≤ op ∧ op ≤ 0x4F) ∨ op = 0x56 ∨ op = 0x57 ∨ op = 0x5D ∨ op = 0x5E ∨ 0x64 ≤ op

theorem not_unassignedOp_of_mem_opcodeRows : ∀ row ∈ opcodeRows, ¬ UnassignedOp row.1 := by
  decide

theorem lookup_opcodeRows_of_unassignedOp {op : Nat} (h : UnassignedOp op) : opcodeRows.lookup op = none := by
  refine List.lookup_eq_none_iff.mpr fun row hrow => bne_iff_ne.mpr ?_
  rintro rfl
  exact not_unassignedOp_of_mem_opcodeRows row hrow h

/-- Settles O7: the OP has no row of the opcode table, so the decoder names it illegal, and the step only appends the
result. -/
theorem unassignedOpGivesIllegalRequest : Obligations.UnassignedOpGivesIllegalRequest := by
  rintro s rq rest op wf hreq rfl unassigned
  have no_row := lookup_opcodeRows_of_unassignedOp unassigned
  rw [step_of_pending wf hreq, runWord_of_error (decode_of_unassigned no_row)]
  rfl

/-! ### The ranges of the opcode map, as the checks test them -/

theorem decide_le_eq_not_decide_lt (a b : Nat) : decide (a ≤ b) = !decide (b < a) := by
  rw [← decide_not, decide_eq_decide, Nat.not_lt]

theorem decide_lt_eq_not_decide_le (a b : Nat) : decide (a < b) = !decide (b ≤ a) := by
  rw [← decide_not, decide_eq_decide, Nat.not_le]

theorem cfgIndexInRange_eq (f x : Nat) (src : Copy) :
    cfgIndexInRange f x src = decide (x ≤ cfgFieldMaxIndex f src) := by
  unfold cfgIndexInRange
  split
  case h_5 not_gpio not_dcc not_byteTx not_byteRx =>
    have max_zero : cfgFieldMaxIndex f src = 0 := by
      cases src <;> simp_all [cfgFieldMaxIndex]
    simp [max_zero]
  all_goals rfl

/-- An index of a communication byte has 3 bits, so each is in range of the 8 received bytes. -/
theorem wellFormed_getComm (c : Cfg) (chip : ChipField) (x : BitVec 3) (src : Copy) :
    wellFormed c (.getComm chip x src) = (chipInChain c chip && !decide (src = .tx ∧ 5 < x.toNat)) := by
  cases src with
  | tx => simp [wellFormed, decide_le_eq_not_decide_lt]
  | rx =>
    have x_le : x.toNat ≤ 7 := Nat.le_of_lt_succ x.isLt
    simp [wellFormed, x_le]

/-! ### The checks of a request against `rejection`

`rejection` reads the checks off the opcode map; a request makes its own list of them. One lemma per shape of list. -/

section
variable {s : State} {i : Instr} {chip : ChipField} {inRange outOfRange : Bool}

theorem firstFailing_pecCalc (s : State) :
    (firstFailing [(decide (s.cfg.pecMaxLen < s.payload.length), .payload)]).map reasonCode =
      rejection s.cfg s.payload .pecCalc := by
  rw [rejection, payloadAllowed, if_pos rfl, decide_le_eq_not_decide_lt]
  cases decide (s.cfg.pecMaxLen < s.payload.length) <;> rfl

theorem firstFailing_chain (hi : i ≠ .pecCalc) (hchip : chipField i = none) (hfield : wellFormed s.cfg i = inRange)
    (hrange : inRange = !outOfRange) :
    (firstFailing [fieldCheck outOfRange, payloadCheck s]).map reasonCode = rejection s.cfg s.payload i := by
  rw [rejection, hchip, Option.any_none, hfield, hrange, payloadAllowed, if_neg hi, payloadCheck]
  cases outOfRange <;> cases s.payload.isEmpty <;> rfl

/-- A chain-wide request whose operands are all in range makes no field check. -/
theorem firstFailing_payload (hi : i ≠ .pecCalc) (hchip : chipField i = none) (hfield : wellFormed s.cfg i = true) :
    (firstFailing [payloadCheck s]).map reasonCode = rejection s.cfg s.payload i :=
  firstFailing_chain (outOfRange := false) hi hchip hfield rfl

theorem firstFailing_perChip (hchip : chipField i = some chip)
    (hfield : wellFormed s.cfg i = (chipInChain s.cfg chip && inRange)) (hrange : inRange = !outOfRange) :
    (firstFailing [chipCheck s chip, fieldCheck outOfRange, payloadCheck s]).map reasonCode =
      rejection s.cfg s.payload i := by
  have hi : i ≠ .pecCalc := fun is_pecCalc => by rw [is_pecCalc] at hchip; cases hchip
  rw [rejection, hchip, Option.any_some, hfield, hrange, payloadAllowed, if_neg hi, chipInChain,
    decide_lt_eq_not_decide_le, chipCheck, payloadCheck]
  cases decide (s.cfg.n ≤ chip.toNat) <;> cases outOfRange <;> cases s.payload.isEmpty <;> rfl

/-- Two field checks fail with one code, as one check of both. -/
theorem firstFailing_fieldChecks (a b : Bool) (rest : List (Bool × Reason)) :
    firstFailing (fieldCheck a :: fieldCheck b :: rest) = firstFailing (fieldCheck (a || b) :: rest) := by
  cases a <;> rfl

theorem firstFailing_getCfg {f x : Nat} {src : Copy} (hchip : chipField i = some chip)
    (hfield : wellFormed s.cfg i = (chipInChain s.cfg chip && decide (f ≤ 9) && cfgIndexInRange f x src)) :
    (firstFailing [chipCheck s chip, fieldCheck (decide (9 < f)),
      fieldCheck (decide (cfgFieldMaxIndex f src < x)), payloadCheck s]).map reasonCode =
      rejection s.cfg s.payload i := by
  have hrange : (decide (f ≤ 9) && cfgIndexInRange f x src) =
      !(decide (9 < f) || decide (cfgFieldMaxIndex f src < x)) := by
    rw [cfgIndexInRange_eq, decide_le_eq_not_decide_lt, decide_le_eq_not_decide_lt, Bool.not_or]
  rw [Bool.and_assoc] at hfield
  rw [← firstFailing_perChip hchip hfield hrange, chipCheck, firstFailing_cons, firstFailing_fieldChecks,
    ← firstFailing_cons]

end

/-! ### Every request -/

section
variable {i : Instr} {s : State} {v : Nat} (h : rejection s.cfg s.payload i = some v)
include h

theorem guarded_of_rejection {checks : List (Bool × Reason)}
    (agree : (firstFailing checks).map reasonCode = rejection s.cfg s.payload i) {body : State → State} :
    guarded checks body s = raiseStatus .invalidParam v s := by
  rw [h, Option.map_eq_some_iff] at agree
  obtain ⟨r, failing, rfl⟩ := agree
  exact guarded_of_fail body s failing

theorem setterOf_of_rejection {chip : ChipField} (hchip : chipField i = some chip) {inRange outOfRange : Bool}
    (hfield : wellFormed s.cfg i = (chipInChain s.cfg chip && inRange)) (hrange : inRange = !outOfRange)
    {change : Chip → Chip} {val : Nat} : setterOf chip outOfRange change val s = raiseStatus .invalidParam v s :=
  guarded_of_rejection h (firstFailing_perChip hchip hfield hrange)

/-- A request that fails a check has no other effect than the result INVALID_PARAM with the first failing check's
code (30_encoding R103). -/
theorem exec_of_rejection : exec i s = .next (raiseStatus .invalidParam v s) := by
  cases i with
  | pecCalc => exact congrArg _ (guarded_of_rejection h (firstFailing_pecCalc s))
  | setRefonA | setRefonB | setAdcoptA | setAdcoptB | setOvA | setOvB | setDctoA | setDctoB =>
    exact congrArg _ (setterOf_of_rejection h rfl (Bool.and_true _).symm rfl)
  | setGpioA | setGpioB | setUvA | setUvB | setDccA | setDccB | setComm =>
    exact congrArg _ (setterOf_of_rejection h rfl rfl (decide_le_eq_not_decide_lt _ _))
  | getCell | getAux | getStat | getPecFlag | getCounter =>
    exact congrArg _ (guarded_of_rejection h (firstFailing_perChip rfl rfl (decide_le_eq_not_decide_lt _ _)))
  | getComm chip x src =>
    exact congrArg _ (guarded_of_rejection h (firstFailing_perChip rfl (wellFormed_getComm _ chip x src) rfl))
  | getCfgA | getCfgB => exact congrArg _ (guarded_of_rejection h (firstFailing_getCfg rfl rfl))
  | startAdcv | startAdax | startAdstat =>
    exact congrArg _ (guarded_of_rejection h (firstFailing_chain nofun rfl rfl (decide_le_eq_not_decide_lt _ _)))
  | readCellOne | readAuxOne | readStatOne =>
    exact congrArg _ (guarded_of_rejection h (firstFailing_chain nofun rfl rfl (decide_lt_eq_not_decide_le _ _)))
  | sendCmd | writeCfg | readCfg | writeComm | readComm | wakeIdle | wakeSleep | readCellAll | readAuxAll | readStatAll
  | resetCounters | poll =>
    exact congrArg _ (guarded_of_rejection h (firstFailing_payload nofun rfl rfl))

end

/-- Settles O8: the decoder makes the check of the reserved bits, and a request's own checks, made in the order CHIP,
field, payload before anything else, fail first where `rejection` says. -/
theorem invalidParamNamesTheFirstFailingCheck : Obligations.InvalidParamNamesTheFirstFailingCheck := by
  intro s rq rest mask wf hreq assigned
  obtain ⟨accepted, rejected⟩ := decodesIff_of_assigned assigned
  rw [step_of_pending wf hreq]
  refine ⟨fun reserved_set => ?reservedBits, fun reserved_zero => ?laterCheck⟩
  case reservedBits =>
    rw [runWord_of_error (rejected reserved_set)]
    rfl
  case laterCheck =>
    obtain ⟨i, decoded⟩ := accepted reserved_zero
    refine ⟨i, decoded, fun v fails => ?_⟩
    exact (runWord_of_request decoded _).trans (exec_of_rejection fails)

end Sys2Proof.Machine
end

section
/-! PROOFS. The bus events of a request against the result it ends with: none for a rejected one, one per fill for POLL,
and for every request at most its bound (70_reset_and_hazards R391). -/

namespace Sys2Proof.Machine

/-! ### Requests but POLL: rejected, or past the checks with another status -/

/-- A request ends past its checks, with a status that is not POLL's own. -/
def EndsAnswered (s t : State) : Prop :=
  ∃ r, t.results = s.results ++ [r] ∧ (r.st = .ok ∨ r.st = .pecMismatch ∨ r.st = .shapeError)

theorem EndsAnswered.of_ok {s t : State} (val : Nat) (h : t.results = s.results) :
    EndsAnswered s (finishOk val t) :=
  ⟨⟨.ok, val, []⟩, by rw [finishOk_results, h], .inl rfl⟩

theorem EndsAnswered.of_read {s t : State} (mism : List (Nat × Nat)) (h : t.results = s.results) :
    EndsAnswered s (finish (readResult mism) t) := by
  refine ⟨readResult mism, by rw [finish_results, h], ?_⟩
  cases mism with
  | nil => exact .inl rfl
  | cons => exact .inr (.inl rfl)

theorem EndsAnswered.of_shapeError {s t : State} (k : Nat) (mism : List (Nat × Nat)) (h : t.results = s.results) :
    EndsAnswered s (finish ⟨.shapeError, k, mism⟩ t) :=
  ⟨⟨.shapeError, k, mism⟩, by rw [finish_results, h], .inr (.inr rfl)⟩

theorem readOne_endsAnswered (c : CmdCode) (k id : Nat) (store : Group → Chip → Chip) (s : State) :
    EndsAnswered s (readOne c k id store s) := by
  obtain stored | shape := readOne_cases c k id store s
  · rw [stored]
    exact .of_read _ rfl
  · rw [shape]
    exact .of_shapeError k [] rfl

theorem readAllFrom_endsAnswered (kind : Kind) (ks : List Nat) (mism : List (Nat × Nat)) (s : State) :
    EndsAnswered s (readAllFrom kind ks mism s) := by
  induction ks generalizing mism s with
  | nil => exact .of_read mism rfl
  | cons k ks ih =>
    rw [readAllFrom]
    split
    case isTrue => exact ih _ (storeAll _ _ (exchange _ s))
    case isFalse => exact .of_shapeError k mism rfl

/-- From s to t a request is rejected, with the result INVALID_PARAM and no other effect, or ends as `P s t` says. -/
def RejectedOr (P : State → State → Prop) (s t : State) : Prop :=
  (∃ v, t = raiseStatus .invalidParam v s) ∨ P s t

theorem guarded_rejectedOr {P : State → State → Prop} (checks : List (Bool × Reason)) {body : State → State} {s : State}
    (hbody : P s (body s)) : RejectedOr P s (guarded checks body s) := by
  obtain passed | ⟨r, -, failed⟩ := guarded_cases checks body s
  · exact .inr (passed ▸ hbody)
  · exact .inl ⟨reasonCode r, failed⟩

theorem setterOf_rejectedOr_endsAnswered (chip : ChipField) (outOfRange : Bool) (change : Chip → Chip) (val : Nat)
    (s : State) : RejectedOr EndsAnswered s (setterOf chip outOfRange change val s) :=
  guarded_rejectedOr _ (.of_ok val rfl)

theorem exec_rejectedOr_endsAnswered {i : Instr} (hi : i ≠ .poll) {s t : State} (h : exec i s = .next t) :
    RejectedOr EndsAnswered s t := by
  cases i with
  | setRefonA | setRefonB | setAdcoptA | setAdcoptB | setGpioA | setGpioB | setUvA | setUvB | setOvA | setOvB | setDccA
  | setDccB | setDctoA | setDctoB | setComm =>
    cases h
    exact setterOf_rejectedOr_endsAnswered _ _ _ _ s
  | pecCalc | getCfgA | getCfgB | getComm | getCell | getAux | getStat | getPecFlag | getCounter | resetCounters
  | sendCmd | writeCfg | writeComm | startAdcv | startAdax | startAdstat =>
    cases h
    exact guarded_rejectedOr _ (.of_ok _ rfl)
  | readCfg | readComm | readCellOne | readAuxOne | readStatOne =>
    cases h
    exact guarded_rejectedOr _ (readOne_endsAnswered _ _ _ _ s)
  | readCellAll | readAuxAll | readStatAll =>
    cases h
    exact guarded_rejectedOr _ (readAllFrom_endsAnswered _ _ [] s)
  | wakeIdle =>
    cases h
    exact guarded_rejectedOr _ (.of_ok 0 (by rw [repeatStep_idleFill]))
  | wakeSleep =>
    cases h
    exact guarded_rejectedOr _ (.of_ok 0 (by rw [repeatStep_sleepBurst]))
  | poll => exact absurd rfl hi

/-! ### POLL: one fill per iteration -/

/-- The frame's event and one event per fill from s to t: 1 + k with CONV_DONE value k, 1 + `fills` on a timeout. -/
def PollEnds (fills : Nat) (s t : State) : Prop :=
  ∃ es r, t.trace = s.trace ++ es ∧ t.results = s.results ++ [r] ∧ es.length ≤ 1 + fills ∧
    ((r.st = .convDone ∧ es.length = 1 + r.val) ∨ (r.st = .convTimeout ∧ es.length = 1 + fills))

theorem pollFrom_busTx_pollEnds (fills : Nat) (frame : List Byte) (s : State) :
    PollEnds fills s (pollFrom fills 1 (busTx frame s)) := by
  have trace_eq (es : List Event) : (busTx frame s).trace ++ es = s.trace ++ .tx frame (relOf s.link) :: es := by
    rw [busTx_trace, List.append_assoc, List.singleton_append]
  have count (f : Nat → Event) (n : Nat) :
      (.tx frame (relOf s.link) :: (List.range n).map f : List Event).length = 1 + n := by
    rw [List.length_cons, List.length_map, List.length_range, Nat.add_comm]
  obtain ⟨m, m_lt, silent, answered⟩ | silent := pollFrom_cases fills (busTx frame s)
  · rw [pollFrom_done m fills 1 _ m_lt silent answered]
    exact ⟨_, ⟨.convDone, 1 + m, []⟩, trace_eq _, rfl, by rw [count]; omega, .inl ⟨rfl, by rw [count, Nat.add_comm m]⟩⟩
  · rw [pollFrom_timeout fills 1 _ silent]
    exact ⟨_, ⟨.convTimeout, 0, []⟩, trace_eq _, rfl, (count _ fills).le, .inr ⟨rfl, count _ fills⟩⟩

theorem exec_poll_rejectedOr_pollEnds {s t : State} (h : exec .poll s = .next t) :
    RejectedOr (PollEnds s.cfg.pollMax) s t := by
  cases h
  exact guarded_rejectedOr _ (pollFrom_busTx_pollEnds _ _ s)

/-! ### Every request -/

/-- From s to t a request emits at most b events and ends with one result: none with INVALID_PARAM, 1 + k with CONV_DONE
value k, and 1 + `fills` with CONV_TIMEOUT. -/
def EventsFit (b fills : Nat) (s t : State) : Prop :=
  ∃ es r, t.trace = s.trace ++ es ∧ t.results = s.results ++ [r] ∧ es.length ≤ b ∧ (r.st = .invalidParam → es = []) ∧
    (r.st = .convDone → es.length = 1 + r.val) ∧ (r.st = .convTimeout → es.length = 1 + fills)

theorem eventsFit_raise_invalidParam (b fills v : Nat) (s : State) :
    EventsFit b fills s (raiseStatus .invalidParam v s) :=
  ⟨[], _, (List.append_nil _).symm, raiseStatus_results _ v s, Nat.zero_le b, fun _ => rfl, nofun, nofun⟩

section
variable {b fills : Nat} {s t : State}

theorem EndsAnswered.eventsFit (ended : EndsAnswered s t) (emitted : EmitsAtMost b s t) (fills : Nat) :
    EventsFit b fills s t := by
  obtain ⟨r, results_eq, st⟩ := ended
  obtain ⟨es, trace_eq, len⟩ := emitted
  refine ⟨es, r, trace_eq, results_eq, len, ?_⟩
  obtain st | st | st := st <;> rw [st] <;> exact ⟨nofun, nofun, nofun⟩

theorem PollEnds.eventsFit (ended : PollEnds fills s t) : EventsFit (1 + fills) fills s t := by
  obtain ⟨es, r, trace_eq, results_eq, len, st⟩ := ended
  refine ⟨es, r, trace_eq, results_eq, len, ?_⟩
  obtain ⟨st, count⟩ | ⟨st, count⟩ := st <;> rw [st]
  · exact ⟨nofun, fun _ => count, nofun⟩
  · exact ⟨nofun, nofun, fun _ => count⟩

theorem RejectedOr.eventsFit {P : State → State → Prop} (ended : RejectedOr P s t)
    (hP : P s t → EventsFit b fills s t) : EventsFit b fills s t := by
  obtain ⟨v, rfl⟩ | ended := ended
  · exact eventsFit_raise_invalidParam b fills v s
  · exact hP ended

end

theorem exec_eventsFit (i : Instr) (s t : State) (h : exec i s = .next t) :
    EventsFit (eventBound s.cfg i) s.cfg.pollMax s t := by
  by_cases hi : i = .poll
  case pos =>
    subst hi
    exact (exec_poll_rejectedOr_pollEnds h).eventsFit PollEnds.eventsFit
  case neg =>
    obtain ⟨u, ran, emitted⟩ := exec_emitsAtMost i s
    obtain rfl := Host.Outcome.next.inj (h.symm.trans ran)
    exact (exec_rejectedOr_endsAnswered hi h).eventsFit fun ended => ended.eventsFit emitted _

theorem rejectWord_trace (e : DecodeError) (s : State) : (rejectWord e s).trace = s.trace := by
  cases e with
  | illegalOp | reservedBits => rfl

/-- Settles O13: a request is rejected before any event, or ends with a status of neither a rejection nor POLL within
its bound, or is a POLL with one event for its frame and one per fill. -/
theorem requestEmitsBoundedEvents : Obligations.RequestEmitsBoundedEvents :=
  ⟨exec_eventsFit, rejectWord_trace⟩

end Sys2Proof.Machine
end

section
/-! PROOFS. The encoder and the decoder of request words are inverse to each other (30_encoding R101, R103 (a), R114). -/

namespace Sys2Proof.Machine

/-! ### Words and their fields, as numbers -/

theorem toNat_append_eq {m n : Nat} (x : BitVec m) (y : BitVec n) : (x ++ y).toNat = x.toNat * 2 ^ n + y.toNat := by
  rw [BitVec.toNat_append, ← Nat.shiftLeft_add_eq_or_of_lt y.isLt, Nat.shiftLeft_eq]

theorem toNat_mkWord (op : BitVec 8) (chip : ChipField) (arg : BitVec 16) :
    (mkWord op chip arg).toNat = op.toNat * 2 ^ 24 + chip.toNat * 2 ^ 16 + arg.toNat := by
  rw [mkWord, toNat_append_eq, toNat_append_eq]
  omega

theorem toNat_field (w : RequestWord) (lo len : Nat) :
    (w.extractLsb' lo len).toNat = w.toNat / 2 ^ lo % 2 ^ len := by
  rw [BitVec.extractLsb'_toNat, Nat.shiftRight_eq_div_pow]

theorem field_eq_zero_iff (w : RequestWord) (lo len : Nat) :
    (w.extractLsb' lo len == 0) = true ↔ w.toNat / 2 ^ lo % 2 ^ len = 0 := by
  rw [beq_iff_eq, ← BitVec.toNat_inj, toNat_field, BitVec.ofNat_eq_ofNat, BitVec.toNat_ofNat, Nat.zero_mod]

theorem field_eq_iff (w : RequestWord) (lo len : Nat) (v : BitVec len) :
    w.extractLsb' lo len = v ↔ w.toNat / 2 ^ lo % 2 ^ len = v.toNat := by
  rw [← BitVec.toNat_inj, toNat_field]

theorem toNat_ofBool_bit (w : RequestWord) (j : Nat) :
    (BitVec.ofBool (w.getLsbD j)).toNat = w.toNat / 2 ^ j % 2 := by
  rw [BitVec.toNat_ofBool, BitVec.getLsbD, Nat.toNat_testBit]

theorem bit_eq_iff (w : RequestWord) (j : Nat) (v : Bool) :
    w.getLsbD j = v ↔ w.toNat / 2 ^ j % 2 = (BitVec.ofBool v).toNat := by
  rw [← toNat_ofBool_bit, BitVec.toNat_inj]
  cases w.getLsbD j <;> cases v <;> decide

/-! ### Registers and copies, as bits -/

theorem regOfBit_eq_iff (b : Bool) (r : CfgReg) : regOfBit b = r ↔ b = bitOfReg r := by
  cases b <;> cases r <;> decide

theorem copyOfBit_eq_iff (b : Bool) (c : Copy) : copyOfBit b = c ↔ b = bitOfCopy c := by
  cases b <;> cases c <;> decide

theorem bitOfReg_regOfBit (b : Bool) : bitOfReg (regOfBit b) = b :=
  ((regOfBit_eq_iff b _).mp rfl).symm

theorem bitOfCopy_copyOfBit (b : Bool) : bitOfCopy (copyOfBit b) = b :=
  ((copyOfBit_eq_iff b _).mp rfl).symm

/-! ### Check (a) -/

theorem reserved_eq_ok_iff (zero : Bool) (i j : Instr) : reserved zero i = .ok j ↔ zero = true ∧ i = j := by
  cases zero <;> simp [reserved]

/-- A request without reserved bits, in the form of one whose reserved bits are 0. -/
theorem ok_eq_ok_iff (i j : Instr) : (Except.ok i : Except DecodeError Instr) = .ok j ↔ True ∧ i = j := by
  rw [Except.ok.injEq, true_and]

/-! ### The round trips

Both sides of each equation are compared as numbers: the operands of a word, and with them its reserved bits, are
quotients and remainders of it. -/

theorem encode_of_decode {w : RequestWord} {i : Instr} (h : decode w = .ok i) : encode i = w := by
  unfold decode at h
  split at h
  case h_43 => cases h
  all_goals
    rename_i op_eq
    simp only [reserved_eq_ok_iff, ok_eq_ok_iff, Bool.and_eq_true, field_eq_zero_iff] at h
    obtain ⟨reserved_zero, rfl⟩ := h
    rw [opOf, toNat_field] at op_eq
    apply BitVec.eq_of_toNat_eq
    rw [encode, toNat_mkWord]
    repeat rw [toNat_append_eq]
    simp only [toNat_field, toNat_ofBool_bit, bitOfReg_regOfBit, bitOfCopy_copyOfBit, BitVec.ofNat_eq_ofNat,
      BitVec.toNat_ofNat]
    omega

theorem opOf_encode (i : Instr) : opOf (encode i) = Laws.OpOfEncoding.opcodeOf i := by
  cases i <;> exact Laws.OpOfEncoding.opOf_mkWord ..



theorem decode_encode (i : Instr) : decode (encode i) = .ok i := by
  have op_eq := congrArg BitVec.toNat (opOf_encode i)
  cases i
  all_goals
    simp only [Laws.OpOfEncoding.opcodeOf, BitVec.reduceToNat] at op_eq
    simp only [decode, op_eq, reserved_eq_ok_iff, ok_eq_ok_iff, Bool.and_eq_true, field_eq_zero_iff]
    clear op_eq
    generalize number : encode _ = w
    replace number := congrArg BitVec.toNat number
    rw [encode, toNat_mkWord] at number
    repeat rw [toNat_append_eq] at number
    simp only [BitVec.ofNat_eq_ofNat, BitVec.toNat_ofNat] at number
  case setUvA | setUvB | setOvA | setOvB => refine ⟨trivial, ?_⟩; congr 1 <;> simp only [field_eq_iff] <;> omega
  all_goals
    refine ⟨by omega, ?_⟩
    congr 1 <;> simp only [field_eq_iff, bit_eq_iff, regOfBit_eq_iff, copyOfBit_eq_iff] <;> omega

/-- Settles O1: OP picks the arm of the decoder, and in the word's number every operand is the quotient and remainder
that the arm reads. -/
theorem decodeInvertsEncode : Obligations.DecodeInvertsEncode :=
  decode_encode

/-- Settles O2: OP, the operands and the reserved bits, which are 0, are all of a word. -/
theorem encodeInvertsDecode : Obligations.EncodeInvertsDecode :=
  fun _ _ => encode_of_decode

/-- Settles O3: an OP without a row is illegal, and one with a row leaves only the reserved bits to fail. -/
theorem wordAcceptedIffItMatchesItsTableRow : Obligations.WordAcceptedIffItMatchesItsTableRow :=
  fun _ => ⟨decode_of_unassigned, fun _ => decodesIff_of_assigned⟩

/-- Settles O4: each word is the encoding of the request it is said to decode to. -/
theorem exampleWordsDecode : Obligations.ExampleWordsDecode :=
  ⟨decode_encode .pecCalc, decode_encode (.sendCmd 0x711), decode_encode (.writeCfg .b), decode_encode .wakeSleep,
    decode_encode (.setGpioA 0 4 true), decode_encode (.setUvA 0 30000), decode_encode (.setDccB 1 11 true),
    decode_encode (.getCfgA 0 9 .rx 6), decode_encode (.setComm 0 5 0xA5), decode_encode (.getComm 0 7 .rx),
    decode_encode (.readCellOne 1), decode_encode (.getCounter 1 3), decode_encode (.startAdcv 2 true 6),
    decode_encode .poll⟩

/-- Settles O5: six closed lines, read and assembled. -/
theorem exampleLinesAssemble : Obligations.ExampleLinesAssemble := by
  refine ⟨?_, ?_, ?_, ?_, ?_, ?_⟩ <;> decide

end Sys2Proof.Machine
end

section
/-! PROOFS. What a request does past its checks, one arm per request: the checks of 30_encoding R103 are dealt with once,
here, and later proofs are about the effect alone. -/

namespace Sys2Proof.Machine

/-- The effect of a request that passes its checks (43_register_codec, 44_measurement_parser, 45_conversion,
40_pec15 to 42_link_sequencer), its result included. -/
def effectOf (s : State) : Instr → State
  | .pecCalc => finishOk (pec16 s.payload).toNat s
  | .sendCmd c => finishOk 0 (busTx (commandFrame c) s)
  | .writeCfg r => finishOk 0 (busTx (writeFrame s.cfg (code s (writeCfgName r)) fun i =>
      (cfgGroup r (chipOf s i)).tx.toList) s)
  | .readCfg r => readOne (code s (readCfgName r)) 0 (cfgRegId r) (storeCfgGroup s.cfg.cntW r) s
  | .writeComm => finishOk 0 (busTx (writeFrame s.cfg (code s .wrcomm) fun i => (chipOf s i).commTx.toList) s)
  | .readComm => readOne (code s .rdcomm) 0 commRegId storeCommGroup s
  | .wakeIdle =>
    finishOk 0 { repeatStep idleFillOnce s.cfg.n s with link := wakeIdleLink (repeatStep idleFillOnce s.cfg.n s).link }
  | .wakeSleep =>
    finishOk 0 { repeatStep sleepBurstOnce s.cfg.n s with
      link := wakeSleepLink (repeatStep sleepBurstOnce s.cfg.n s).link }
  | .setRefonA chip v => finishOk 0 (updChip chip.toNat (packTx .a 0 0x04 (bitByte v) 2) s)
  | .setRefonB chip v => finishOk 0 (updChip chip.toNat (packTx .b 0 0x04 (bitByte v) 2) s)
  | .setAdcoptA chip v => finishOk 0 (updChip chip.toNat (packTx .a 0 0x01 (bitByte v) 0) s)
  | .setAdcoptB chip v => finishOk 0 (updChip chip.toNat (packTx .b 0 0x01 (bitByte v) 0) s)
  | .setGpioA chip g v =>
    finishOk 0 (updChip chip.toNat (packTx .a 0 (bitMask (3 + g.toNat)) (bitByte v) (3 + g.toNat)) s)
  | .setGpioB chip g v =>
    finishOk 0 (updChip chip.toNat (packTx .b 0 (bitMask (3 + g.toNat)) (bitByte v) (3 + g.toNat)) s)
  | .setUvA chip t => finishOk (uvRaw t).toNat (updChip chip.toNat (storeUv .a (uvRaw t)) s)
  | .setUvB chip t => finishOk (uvRaw t).toNat (updChip chip.toNat (storeUv .b (uvRaw t)) s)
  | .setOvA chip t => finishOk (ovRaw t).toNat (updChip chip.toNat (storeOv .a (ovRaw t)) s)
  | .setOvB chip t => finishOk (ovRaw t).toNat (updChip chip.toNat (storeOv .b (ovRaw t)) s)
  | .setDccA chip c v => finishOk 0 (updChip chip.toNat
      (packTx .a (dccPlace c.toNat).1 (bitMask (dccPlace c.toNat).2) (bitByte v) (dccPlace c.toNat).2) s)
  | .setDccB chip c v => finishOk 0 (updChip chip.toNat
      (packTx .b (dccPlace c.toNat).1 (bitMask (dccPlace c.toNat).2) (bitByte v) (dccPlace c.toNat).2) s)
  | .setDctoA chip t => finishOk 0 (updChip chip.toNat (packTx .a 5 0xF0 (t.setWidth 8) 4) s)
  | .setDctoB chip t => finishOk 0 (updChip chip.toNat (packTx .b 5 0xF0 (t.setWidth 8) 4) s)
  | .getCfgA chip f src x => finishOk (cfgFieldValue (cfgCopy .a src (chipOf s chip.toNat)) f.toNat x.toNat) s
  | .getCfgB chip f src x => finishOk (cfgFieldValue (cfgCopy .b src (chipOf s chip.toNat)) f.toNat x.toNat) s
  | .setComm chip x b =>
    finishOk 0 (updChip chip.toNat (fun c => { c with commTx := c.commTx.setIfInBounds x.toNat b }) s)
  | .getComm chip x src => finishOk (commByte (chipOf s chip.toNat) src x.toNat).toNat s
  | .readCellAll => readAllFrom .cell (List.range s.cfg.cellSubregs) [] s
  | .readAuxAll => readAllFrom .aux (List.range s.cfg.auxSubregs) [] s
  | .readStatAll => readAllFrom .stat (List.range s.cfg.statSubregs) [] s
  | .readCellOne k => readOne (code s (readName .cell k.toNat)) k.toNat (regId .cell k.toNat)
      (storeMeasurement s.cfg.cntW .cell k.toNat) s
  | .readAuxOne k => readOne (code s (readName .aux k.toNat)) k.toNat (regId .aux k.toNat)
      (storeMeasurement s.cfg.cntW .aux k.toNat) s
  | .readStatOne k => readOne (code s (readName .stat k.toNat)) k.toNat (regId .stat k.toNat)
      (storeMeasurement s.cfg.cntW .stat k.toNat) s
  | .getCell chip slot => finishOk ((chipOf s chip.toNat).cellCodes[slot.toNat]?.getD 0).toNat s
  | .getAux chip slot => finishOk ((chipOf s chip.toNat).auxCodes[slot.toNat]?.getD 0).toNat s
  | .getStat chip f => finishOk (statFieldValue (chipOf s chip.toNat) f.toNat) s
  | .getPecFlag chip id => finishOk (bitNat (pecFlag (chipOf s chip.toNat) id.toNat)) s
  | .getCounter chip id => finishOk (counterAt s chip.toNat id.toNat) s
  | .resetCounters => finishOk 0 { s with chips := s.chips.map zeroCounters }
  | .startAdcv md dcp ch => startConversion (foldAdcv s.cfg md dcp ch) s
  | .startAdax md chg => startConversion (foldAdax s.cfg md chg) s
  | .startAdstat md chst => startConversion (foldAdstat s.cfg md chst) s
  | .poll => pollFrom s.cfg.pollMax 1 (busTx (commandFrame (code s .pladc)) s)

section
variable {i : Instr} {s : State} (h : rejection s.cfg s.payload i = none)
include h

theorem guarded_of_acceptance {checks : List (Bool × Reason)}
    (agree : (firstFailing checks).map reasonCode = rejection s.cfg s.payload i) {body : State → State} :
    guarded checks body s = body s := by
  rw [h, Option.map_eq_none_iff] at agree
  exact guarded_of_pass body s agree

theorem setterOf_of_acceptance {chip : ChipField} (hchip : chipField i = some chip) {inRange outOfRange : Bool}
    (hfield : wellFormed s.cfg i = (chipInChain s.cfg chip && inRange)) (hrange : inRange = !outOfRange)
    {change : Chip → Chip} {val : Nat} :
    setterOf chip outOfRange change val s = finishOk val (updChip chip.toNat change s) :=
  guarded_of_acceptance h (firstFailing_perChip hchip hfield hrange)

/-- The companion of `exec_of_rejection`. -/
theorem exec_of_acceptance : exec i s = .next (effectOf s i) := by
  cases i with
  | pecCalc => exact congrArg _ (guarded_of_acceptance h (firstFailing_pecCalc s))
  | setRefonA | setRefonB | setAdcoptA | setAdcoptB | setOvA | setOvB | setDctoA | setDctoB =>
    exact congrArg _ (setterOf_of_acceptance h rfl (Bool.and_true _).symm rfl)
  | setGpioA | setGpioB | setUvA | setUvB | setDccA | setDccB | setComm =>
    exact congrArg _ (setterOf_of_acceptance h rfl rfl (decide_le_eq_not_decide_lt _ _))
  | getCell | getAux | getStat | getPecFlag | getCounter =>
    exact congrArg _ (guarded_of_acceptance h (firstFailing_perChip rfl rfl (decide_le_eq_not_decide_lt _ _)))
  | getComm chip x src =>
    exact congrArg _ (guarded_of_acceptance h (firstFailing_perChip rfl (wellFormed_getComm _ chip x src) rfl))
  | getCfgA | getCfgB => exact congrArg _ (guarded_of_acceptance h (firstFailing_getCfg rfl rfl))
  | startAdcv | startAdax | startAdstat =>
    exact congrArg _ (guarded_of_acceptance h (firstFailing_chain nofun rfl rfl (decide_le_eq_not_decide_lt _ _)))
  | readCellOne | readAuxOne | readStatOne =>
    exact congrArg _ (guarded_of_acceptance h (firstFailing_chain nofun rfl rfl (decide_lt_eq_not_decide_le _ _)))
  | sendCmd | writeCfg | readCfg | writeComm | readComm | wakeIdle | wakeSleep | readCellAll | readAuxAll | readStatAll
  | resetCounters | poll =>
    exact congrArg _ (guarded_of_acceptance h (firstFailing_payload nofun rfl rfl))

end

/-- A request ends with INVALID_PARAM and no other effect, or passes its checks and has its effect. -/
theorem exec_cases {i : Instr} {s t : State} (h : exec i s = .next t) :
    (∃ v, rejection s.cfg s.payload i = some v ∧ t = raiseStatus .invalidParam v s) ∨
      (rejection s.cfg s.payload i = none ∧ t = effectOf s i) := by
  cases checks : rejection s.cfg s.payload i with
  | some v => exact .inl ⟨v, rfl, Host.Outcome.next.inj (h.symm.trans (exec_of_rejection checks))⟩
  | none => exact .inr ⟨rfl, Host.Outcome.next.inj (h.symm.trans (exec_of_acceptance checks))⟩

/-! ### A request in range, without a payload -/

/-- Check (b) is one conjunct of the ranges of a per-chip request. -/
theorem chipInChain_of_wellFormed {c : Cfg} {i : Instr} {chip : ChipField} (hchip : chipField i = some chip)
    (hi : wellFormed c i = true) : chipInChain c chip = true := by
  cases i <;> cases hchip <;> simp_all only [wellFormed, Bool.and_eq_true]

theorem rejection_eq_none {c : Cfg} {i : Instr} (hi : wellFormed c i = true) : rejection c [] i = none := by
  have chip_ok : (chipField i).any (fun chip => !chipInChain c chip) = false := by
    cases hchip : chipField i with
    | none => rfl
    | some chip => simp [chipInChain_of_wellFormed hchip hi]
  have payload_ok : payloadAllowed c [] i = true := by
    unfold payloadAllowed
    split <;> simp
  simp [rejection, chip_ok, hi, payload_ok]

theorem exec_of_wellFormed {i : Instr} {s : State} (hpay : s.payload = []) (hi : wellFormed s.cfg i = true) :
    exec i s = .next (effectOf s i) :=
  exec_of_acceptance (hpay ▸ rejection_eq_none hi)

theorem wellFormed_of_acceptance {c : Cfg} {payload : List Byte} {i : Instr} (h : rejection c payload i = none) :
    wellFormed c i = true := by
  unfold rejection at h
  split at h
  case isTrue => cases h
  case isFalse =>
    split at h
    case isTrue => cases h
    case isFalse in_range => simpa using in_range

end Sys2Proof.Machine
end

section
/-! PROOFS. What every request leaves unchanged, and the marks of its bus events (10_state R30, 42_link_sequencer R202,
R203). -/

namespace Sys2Proof.Machine

/-! ### One link state for the whole of a request -/

/-- From s to t the bus may have been used, with every event marked by the link at s, and chips and results may have
changed; the link and everything else is as before, but for the answers used. -/
structure BusFrame (s t : State) : Prop where
  cfg : t.cfg = s.cfg
  seq : t.seq = s.seq
  payload : t.payload = s.payload
  requests : t.requests = s.requests
  gaps : t.gaps = s.gaps
  gapDraws : t.gapDraws = s.gapDraws
  link : t.link = s.link
  answers : ∃ k, t.answers = s.answers.drop k ∧ t.draws = s.draws + k
  events : ∃ es, t.trace = s.trace ++ es ∧ ∀ e ∈ es, ∀ m, markOf e = some m → m = relOf s.link

namespace BusFrame

/-- A change of the chips and the results alone. -/
theorem of_eq {s t : State} (h : t = { s with chips := t.chips, results := t.results }) : BusFrame s t := by
  rw [h]
  exact ⟨rfl, rfl, rfl, rfl, rfl, rfl, rfl, ⟨0, rfl, rfl⟩, ⟨[], (List.append_nil _).symm, nofun⟩⟩

theorem trans {s t u : State} (hst : BusFrame s t) (htu : BusFrame t u) : BusFrame s u where
  cfg := htu.cfg.trans hst.cfg
  seq := htu.seq.trans hst.seq
  payload := htu.payload.trans hst.payload
  requests := htu.requests.trans hst.requests
  gaps := htu.gaps.trans hst.gaps
  gapDraws := htu.gapDraws.trans hst.gapDraws
  link := htu.link.trans hst.link
  answers := by
    obtain ⟨k, answers_t, draws_t⟩ := hst.answers
    obtain ⟨l, answers_u, draws_u⟩ := htu.answers
    exact ⟨k + l, by rw [answers_u, answers_t, List.drop_drop], by rw [draws_u, draws_t, Nat.add_assoc]⟩
  events := by
    obtain ⟨es, trace_t, marks_es⟩ := hst.events
    obtain ⟨fs, trace_u, marks_fs⟩ := htu.events
    refine ⟨es ++ fs, by rw [trace_u, trace_t, List.append_assoc], fun e he => ?_⟩
    obtain in_es | in_fs := List.mem_append.mp he
    · exact marks_es e in_es
    · exact hst.link ▸ marks_fs e in_fs

/-! ### The operations a request is made of -/

section
variable (s : State)

theorem finish (r : Result) : BusFrame s (finish r s) :=
  of_eq rfl

theorem storeAll (store : Group → Chip → Chip) (response : List Byte) : BusFrame s (storeAll store response s) :=
  of_eq rfl

theorem busTx (bytes : List Byte) : BusFrame s (busTx bytes s) :=
  ⟨rfl, rfl, rfl, rfl, rfl, rfl, rfl, ⟨0, rfl, rfl⟩, ⟨_, rfl, by simp [markOf]⟩⟩

theorem exchange (c : CmdCode) : BusFrame s (exchange c s) :=
  ⟨rfl, rfl, rfl, rfl, rfl, rfl, rfl, ⟨1, List.drop_one.symm, rfl⟩, ⟨_, rfl, by simp [markOf]⟩⟩

theorem busFill (n : Nat) : BusFrame s (busFill n s) :=
  ⟨rfl, rfl, rfl, rfl, rfl, rfl, rfl, ⟨1, List.drop_one.symm, rfl⟩, ⟨_, rfl, by simp [markOf]⟩⟩

theorem busDelay (us : Nat) : BusFrame s (busDelay us s) :=
  ⟨rfl, rfl, rfl, rfl, rfl, rfl, rfl, ⟨0, rfl, rfl⟩, ⟨_, rfl, by simp [markOf]⟩⟩

theorem readOne (c : CmdCode) (k id : Nat) (store : Group → Chip → Chip) : BusFrame s (readOne c k id store s) := by
  obtain stored | shape := readOne_cases c k id store s
  · rw [stored]
    exact ((exchange s c).trans (storeAll _ store _)).trans (finish _ _)
  · rw [shape]
    exact (exchange s c).trans (finish _ _)

theorem readAllFrom (kind : Kind) (ks : List Nat) (mism : List (Nat × Nat)) :
    BusFrame s (readAllFrom kind ks mism s) :=
  readAllFrom_induct kind (BusFrame s) (fun c u h => h.trans (exchange u c))
    (fun _ response u h => h.trans (storeAll u _ response)) (fun r u h => h.trans (finish u r)) ks mism s (of_eq rfl)

theorem repeatStep {f : State → State} (hf : ∀ s, BusFrame s (f s)) (n : Nat) : BusFrame s (repeatStep f n s) := by
  induction n generalizing s with
  | zero => exact of_eq rfl
  | succ n ih => exact (hf s).trans (ih (f s))

theorem sleepBurstOnce : BusFrame s (sleepBurstOnce s) :=
  (busFill s _).trans (busDelay _ _)

theorem pollFrom (left k : Nat) : BusFrame s (pollFrom left k s) := by
  induction left generalizing k s with
  | zero => exact finish s _
  | succ left ih =>
    rw [Machine.pollFrom]
    split
    case isTrue => exact (busFill s 1).trans (ih _ (k + 1))
    case isFalse => exact (busFill s 1).trans (finish _ _)

end

end BusFrame

/-! ### Every request -/

/-- Only a wake changes the link, and it does so after its last bus event. -/
theorem effectOf_busFrame (s : State) (i : Instr) :
    ∃ u l, BusFrame s u ∧ effectOf s i = { u with link := l } ∧ (isWake i = false → l = s.link) := by
  have unwoken {t : State} (h : BusFrame s t) :
      ∃ u l, BusFrame s u ∧ t = { u with link := l } ∧ (isWake i = false → l = s.link) :=
    ⟨t, t.link, h, rfl, fun _ => h.link⟩
  cases i with
  | wakeIdle =>
    exact ⟨_, _, (BusFrame.repeatStep s (BusFrame.busFill · 1) s.cfg.n).trans (.finish _ _), rfl, nofun⟩
  | wakeSleep =>
    exact ⟨_, _, (BusFrame.repeatStep s BusFrame.sleepBurstOnce s.cfg.n).trans (.finish _ _), rfl, nofun⟩
  | pecCalc | setRefonA | setRefonB | setAdcoptA | setAdcoptB | setGpioA | setGpioB | setUvA | setUvB | setOvA | setOvB
  | setDccA | setDccB | setDctoA | setDctoB | getCfgA | getCfgB | setComm | getComm | getCell | getAux | getStat
  | getPecFlag | getCounter | resetCounters => exact unwoken (.of_eq rfl)
  | sendCmd | writeCfg | writeComm | startAdcv | startAdax | startAdstat =>
    exact unwoken ((BusFrame.busTx s _).trans (.finish _ _))
  | readCfg | readComm | readCellOne | readAuxOne | readStatOne => exact unwoken (.readOne s _ _ _ _)
  | readCellAll | readAuxAll | readStatAll => exact unwoken (.readAllFrom s _ _ _)
  | poll => exact unwoken ((BusFrame.busTx s _).trans (.pollFrom _ _ _))

theorem exec_busFrame {i : Instr} {s t : State} (h : exec i s = .next t) :
    ∃ u l, BusFrame s u ∧ t = { u with link := l } ∧ (isWake i = false → l = s.link) := by
  obtain ⟨v, -, rfl⟩ | ⟨-, rfl⟩ := exec_cases h
  · exact ⟨_, s.link, BusFrame.finish s _, rfl, fun _ => rfl⟩
  · exact effectOf_busFrame s i

theorem relOf_eq_reliable_iff (l : Link) : relOf l = .reliable ↔ l = .active := by
  cases l <;> decide

/-- Settles O14: of the operations a request is made of, only the last one of a wake writes the link. -/
theorem onlyWakesChangeTheLink : Obligations.OnlyWakesChangeTheLink := by
  intro i s t h no_wake
  obtain ⟨u, l, -, rfl, link_kept⟩ := exec_busFrame h
  exact link_kept no_wake

/-- Settles O15: the link stays the one of the start until the last event, and each event takes its mark from it. -/
theorem eventMarksFollowTheLink : Obligations.EventMarksFollowTheLink := by
  intro i s t h
  obtain ⟨u, l, frame, rfl, -⟩ := exec_busFrame h
  obtain ⟨es, trace_eq, marks⟩ := frame.events
  refine ⟨es, trace_eq, fun e he m hm => ?_⟩
  rw [marks e he m hm, relOf_eq_reliable_iff]

/-- Settles O18: no operation of a request writes any of these fields, and each receive takes one answer and counts
one. -/
theorem configurationIsConstant : Obligations.ConfigurationIsConstant := by
  intro i s t h
  obtain ⟨u, l, frame, rfl, -⟩ := exec_busFrame h
  exact ⟨frame.cfg, frame.seq, frame.payload, frame.requests, frame.gaps, frame.gapDraws, frame.answers⟩

end Sys2Proof.Machine
end

section
/-! PROOFS. The one result of every request (60_exceptions R341, R347, R349). -/

namespace Sys2Proof.Machine

/-! ### The status of an accepted request -/

/-- From s to t one result is appended, of one of these statuses. -/
def EndsIn (sts : List Status) (s t : State) : Prop :=
  ∃ r, t.results = s.results ++ [r] ∧ r.st ∈ sts

theorem EndsIn.of_ok {s t : State} (val : Nat) (h : t.results = s.results) : EndsIn [.ok] s (finishOk val t) :=
  ⟨⟨.ok, val, []⟩, by rw [finishOk_results, h], List.mem_singleton_self _⟩

theorem EndsIn.mono {sts sts' : List Status} {s t : State} (h : EndsIn sts s t) (hsub : sts ⊆ sts') :
    EndsIn sts' s t := by
  obtain ⟨r, results_eq, st⟩ := h
  exact ⟨r, results_eq, hsub st⟩

theorem EndsAnswered.endsIn {s t : State} (h : EndsAnswered s t) : EndsIn [.ok, .pecMismatch, .shapeError] s t := by
  obtain ⟨r, results_eq, st⟩ := h
  exact ⟨r, results_eq, by simpa using st⟩

theorem PollEnds.endsIn {fills : Nat} {s t : State} (h : PollEnds fills s t) :
    EndsIn [.convDone, .convTimeout] s t := by
  obtain ⟨es, r, -, results_eq, -, st⟩ := h
  exact ⟨r, results_eq, by simpa using st.imp And.left And.left⟩

/-- The statuses of the table of R347 but INVALID_PARAM, which the checks alone give. -/
def acceptedStatuses (i : Instr) : List Status :=
  (statusesOf i).filter (· != .invalidParam)

theorem effectOf_endsIn (s : State) (i : Instr) : EndsIn (acceptedStatuses i) s (effectOf s i) := by
  cases i with
  | pecCalc | sendCmd | writeCfg | writeComm | setRefonA | setRefonB | setAdcoptA | setAdcoptB | setGpioA | setGpioB
  | setUvA | setUvB | setOvA | setOvB | setDccA | setDccB | setDctoA | setDctoB | getCfgA | getCfgB | setComm | getComm
  | getCell | getAux | getStat | getPecFlag | getCounter | resetCounters | startAdcv | startAdax | startAdstat =>
    exact .of_ok _ rfl
  | wakeIdle => exact .of_ok 0 (by rw [repeatStep_idleFill])
  | wakeSleep => exact .of_ok 0 (by rw [repeatStep_sleepBurst])
  | readCfg | readComm | readCellOne | readAuxOne | readStatOne => exact (readOne_endsAnswered _ _ _ _ s).endsIn
  | readCellAll | readAuxAll | readStatAll => exact (readAllFrom_endsAnswered _ _ [] s).endsIn
  | poll => exact (pollFrom_busTx_pollEnds _ _ s).endsIn

/-! ### Every request -/

theorem invalidParam_mem_statusesOf (i : Instr) : .invalidParam ∈ statusesOf i := by
  cases i <;> simp [statusesOf]

theorem illegalRequest_not_mem_statusesOf (i : Instr) : .illegalRequest ∉ statusesOf i := by
  cases i <;> simp [statusesOf]

theorem exec_endsIn {i : Instr} {s t : State} (h : exec i s = .next t) : EndsIn (statusesOf i) s t := by
  obtain ⟨v, -, rfl⟩ | ⟨-, rfl⟩ := exec_cases h
  · exact ⟨_, raiseStatus_results _ v s, invalidParam_mem_statusesOf i⟩
  · exact (effectOf_endsIn s i).mono (List.filter_subset_self _)

theorem exec_continues (i : Instr) (s : State) : ∃ t, exec i s = .next t := by
  obtain ⟨t, ran, -⟩ := exec_emitsAtMost i s
  exact ⟨t, ran⟩

/-- Settles O12: a rejected request ends in INVALID_PARAM, which every row lists, and an accepted one in a status of its
own row. -/
theorem requestEndsWithAListedStatus : Obligations.RequestEndsWithAListedStatus :=
  fun _ _ _ h => exec_endsIn h

/-- Settles O9: past the checks nothing raises INVALID_PARAM, and no request has ILLEGAL_REQUEST in its row. -/
theorem acceptedRequestIsNotInvalidParam : Obligations.AcceptedRequestIsNotInvalidParam := by
  intro i s accepted
  obtain ⟨r, results_eq, st⟩ := effectOf_endsIn s i
  obtain ⟨listed, not_invalid⟩ := List.mem_filter.mp st
  exact ⟨_, r, exec_of_acceptance accepted, results_eq, bne_iff_ne.mp not_invalid,
    fun illegal => illegalRequest_not_mem_statusesOf i (illegal ▸ listed)⟩

/-! ### Every step -/

theorem rejectWord_endsIn (e : DecodeError) (s : State) :
    EndsIn [.illegalRequest, .invalidParam] s (rejectWord e s) := by
  cases e with
  | illegalOp op => exact ⟨_, rfl, by simp⟩
  | reservedBits => exact ⟨_, rfl, by simp⟩

/-- A presented word, a request or not, leaves one result; the configuration and the pending requests stay. -/
theorem runWord_continues (w : RequestWord) (s : State) :
    ∃ t, runWord w s = .next t ∧ t.cfg = s.cfg ∧ t.requests = s.requests ∧ ∃ r, t.results = s.results ++ [r] := by
  cases decoded : decode w with
  | ok i =>
    obtain ⟨t, ran⟩ := exec_continues i s
    obtain ⟨r, results_eq, -⟩ := exec_endsIn ran
    obtain ⟨u, l, frame, rfl, -⟩ := exec_busFrame ran
    exact ⟨_, (runWord_of_request decoded s).trans ran, frame.cfg, frame.requests, r, results_eq⟩
  | error e =>
    obtain ⟨r, results_eq, -⟩ := rejectWord_endsIn e s
    exact ⟨_, runWord_of_error decoded s, by cases e <;> rfl, by cases e <;> rfl, r, results_eq⟩

theorem step_of_none_pending {s : State} (wf : configWellFormed s.cfg = true) (hreq : s.requests = []) :
    step s = .next s := by
  rw [step, if_pos wf, hreq]

/-- Settles O11: a waiting step changes nothing, and a presented word always leaves a next state and one result. -/
theorem everyStepContinues : Obligations.EveryStepContinues := by
  intro s wf
  cases hreq : s.requests with
  | nil => exact ⟨s, step_of_none_pending wf hreq, rfl, hreq, fun pending => absurd rfl pending⟩
  | cons rq rest =>
    obtain ⟨t, ran, cfg_eq, requests_eq, one_result⟩ := runWord_continues rq.word (presented s rq.payload)
    refine ⟨t, (step_of_pending wf hreq).trans ran, cfg_eq, ?_, fun _ => one_result⟩
    rw [requests_eq, ← hreq]
    rfl

/-- Settles O6: the state a step runs its request in is the presented one by definition. -/
theorem stepRunsTheDecodedRequest : Obligations.StepRunsTheDecodedRequest := by
  intro s wf
  refine ⟨step_of_none_pending wf, fun rq rest i hreq decoded => ?_⟩
  rw [step_of_pending wf hreq, runWord_of_request decoded]

end Sys2Proof.Machine
end

section
/-! PROOFS. The block never reads the link: its state flows into the marks of the trace and into itself alone (10_state
R30, R50). -/

namespace Sys2Proof.Machine

/-- Two states that differ in the link and in the marks of the trace alone. -/
def SameButLink (s u : State) : Prop :=
  u = { s with link := u.link, trace := u.trace } ∧ u.trace.map eraseMark = s.trace.map eraseMark

namespace SameButLink

theorem of_link (s : State) (l : Link) : SameButLink s { s with link := l } :=
  ⟨rfl, rfl⟩

/-! ### The operations of a request keep the two states so -/

section
variable {s u : State} (h : SameButLink s u)
include h

theorem answers_eq : u.answers = s.answers := by
  rw [h.1]

theorem draws_eq : u.draws = s.draws := by
  rw [h.1]

theorem responseOf_eq : responseOf u = responseOf s :=
  responseOf_congr h.answers_eq h.draws_eq

theorem fillOf_eq (n : Nat) : fillOf n u = fillOf n s :=
  fillOf_congr h.answers_eq h.draws_eq

theorem cfg_eq : u.cfg = s.cfg := by
  rw [h.1]

theorem finish (r : Result) : SameButLink (finish r s) (finish r u) := by
  obtain ⟨u_eq, erased⟩ := h
  exact ⟨by rw [u_eq]; rfl, erased⟩

theorem setLink (l l' : Link) : SameButLink { s with link := l } { u with link := l' } := by
  obtain ⟨u_eq, erased⟩ := h
  exact ⟨by rw [u_eq], erased⟩

theorem storeAll (store : Group → Chip → Chip) (response : List Byte) :
    SameButLink (storeAll store response s) (storeAll store response u) := by
  obtain ⟨u_eq, erased⟩ := h
  exact ⟨by rw [u_eq]; rfl, erased⟩

theorem busTx (bytes : List Byte) : SameButLink (busTx bytes s) (busTx bytes u) := by
  obtain ⟨u_eq, erased⟩ := h
  exact ⟨by rw [u_eq]; rfl, by simp [erased]⟩

theorem exchange (c : CmdCode) : SameButLink (exchange c s) (exchange c u) := by
  have response_eq := h.responseOf_eq
  have cfg_eq := h.cfg_eq
  obtain ⟨u_eq, erased⟩ := h
  exact ⟨by rw [u_eq]; rfl, by simp [erased, response_eq, cfg_eq]⟩

theorem busFill (n : Nat) : SameButLink (busFill n s) (busFill n u) := by
  have fill_eq := h.fillOf_eq n
  obtain ⟨u_eq, erased⟩ := h
  exact ⟨by rw [u_eq]; rfl, by simp [erased, fill_eq]⟩

theorem busDelay (us : Nat) : SameButLink (busDelay us s) (busDelay us u) := by
  obtain ⟨u_eq, erased⟩ := h
  exact ⟨by rw [u_eq]; rfl, by simp [erased]⟩

theorem shapeOk_eq : shapeOk u = shapeOk s := by
  rw [shapeOk, shapeOk, h.responseOf_eq, h.cfg_eq]

theorem readOne (c : CmdCode) (k id : Nat) (store : Group → Chip → Chip) :
    SameButLink (readOne c k id store s) (readOne c k id store u) := by
  rw [Machine.readOne, Machine.readOne, h.shapeOk_eq, h.responseOf_eq, h.cfg_eq]
  split
  · exact ((h.exchange c).storeAll store _).finish _
  · exact (h.exchange c).finish _

end

theorem readAllFrom (kind : Kind) (ks : List Nat) (mism : List (Nat × Nat)) {s u : State} (h : SameButLink s u) :
    SameButLink (readAllFrom kind ks mism s) (readAllFrom kind ks mism u) := by
  induction ks generalizing mism s u with
  | nil => exact h.finish _
  | cons k ks ih =>
    rw [Machine.readAllFrom, Machine.readAllFrom, code, code, h.shapeOk_eq, h.responseOf_eq, h.cfg_eq]
    split
    · exact ih _ ((h.exchange _).storeAll _ _)
    · exact (h.exchange _).finish _

theorem repeatStep {f : State → State} (hf : ∀ {s u}, SameButLink s u → SameButLink (f s) (f u)) (n : Nat)
    {s u : State} (h : SameButLink s u) : SameButLink (repeatStep f n s) (repeatStep f n u) := by
  induction n generalizing s u with
  | zero => exact h
  | succ n ih => exact ih (hf h)

theorem sleepBurstOnce {s u : State} (h : SameButLink s u) : SameButLink (sleepBurstOnce s) (sleepBurstOnce u) := by
  rw [Machine.sleepBurstOnce, Machine.sleepBurstOnce, h.cfg_eq]
  exact (h.busFill _).busDelay _

theorem pollFrom (left k : Nat) {s u : State} (h : SameButLink s u) :
    SameButLink (pollFrom left k s) (pollFrom left k u) := by
  induction left generalizing k s u with
  | zero => exact h.finish _
  | succ left ih =>
    rw [Machine.pollFrom, Machine.pollFrom, h.fillOf_eq]
    split
    · exact ih (k + 1) (h.busFill 1)
    · exact (h.busFill 1).finish _

/-! ### Every request -/

theorem effectOf (s : State) (l : Link) (i : Instr) :
    SameButLink (effectOf s i) (effectOf { s with link := l } i) := by
  have start := of_link s l
  cases i with
  | wakeIdle => exact ((start.repeatStep (fun h => h.busFill 1) s.cfg.n).setLink _ _).finish _
  | wakeSleep => exact ((start.repeatStep sleepBurstOnce s.cfg.n).setLink _ _).finish _
  | pecCalc | setRefonA | setRefonB | setAdcoptA | setAdcoptB | setGpioA | setGpioB | setUvA | setUvB | setOvA | setOvB
  | setDccA | setDccB | setDctoA | setDctoB | getCfgA | getCfgB | setComm | getComm | getCell | getAux | getStat
  | getPecFlag | getCounter | resetCounters => exact (of_link _ l).finish _
  | sendCmd | writeCfg | writeComm | startAdcv | startAdax | startAdstat => exact (start.busTx _).finish _
  | readCfg | readComm | readCellOne | readAuxOne | readStatOne => exact start.readOne _ _ _ _
  | readCellAll | readAuxAll | readStatAll => exact start.readAllFrom _ _ _
  | poll => exact (start.busTx _).pollFrom _ _

end SameButLink

/-- Settles O16: the checks read the configuration and the payload alone, and every operation keeps two states that
differ only in the link so, but for the marks it appends. -/
theorem linkIsNeverRead : Obligations.LinkIsNeverRead := by
  intro i s t l h
  obtain ⟨v, rejected, rfl⟩ | ⟨accepted, rfl⟩ := exec_cases h
  · exact ⟨_, exec_of_rejection (s := { s with link := l }) rejected, (SameButLink.of_link s l).finish _⟩
  · exact ⟨_, exec_of_acceptance (s := { s with link := l }) accepted, SameButLink.effectOf s l i⟩

end Sys2Proof.Machine
end

section
/-! PROOFS. What a request can do to the register model of one chip, and the "written by" column of the access table
(10_state R52). -/

namespace Sys2Proof.Machine

open Relation (ReflTransGen)

/-- One change that an accepted request makes to the register model c of a chip. -/
def ChipEdit (cfg : Cfg) (i : Instr) (c d : Chip) : Prop :=
  match i with
  | .setRefonA _ v => d = packTx .a 0 0x04 (bitByte v) 2 c
  | .setRefonB _ v => d = packTx .b 0 0x04 (bitByte v) 2 c
  | .setAdcoptA _ v => d = packTx .a 0 0x01 (bitByte v) 0 c
  | .setAdcoptB _ v => d = packTx .b 0 0x01 (bitByte v) 0 c
  | .setGpioA _ g v => g.toNat ≤ 4 ∧ d = packTx .a 0 (bitMask (3 + g.toNat)) (bitByte v) (3 + g.toNat) c
  | .setGpioB _ g v => g.toNat ≤ 4 ∧ d = packTx .b 0 (bitMask (3 + g.toNat)) (bitByte v) (3 + g.toNat) c
  | .setUvA _ t => d = storeUv .a (uvRaw t) c
  | .setUvB _ t => d = storeUv .b (uvRaw t) c
  | .setOvA _ t => d = storeOv .a (ovRaw t) c
  | .setOvB _ t => d = storeOv .b (ovRaw t) c
  | .setDccA _ b v =>
    d = packTx .a (dccPlace b.toNat).1 (bitMask (dccPlace b.toNat).2) (bitByte v) (dccPlace b.toNat).2 c
  | .setDccB _ b v =>
    d = packTx .b (dccPlace b.toNat).1 (bitMask (dccPlace b.toNat).2) (bitByte v) (dccPlace b.toNat).2 c
  | .setDctoA _ t => d = packTx .a 5 0xF0 (t.setWidth 8) 4 c
  | .setDctoB _ t => d = packTx .b 5 0xF0 (t.setWidth 8) 4 c
  | .setComm _ x b => d = { c with commTx := c.commTx.setIfInBounds x.toNat b }
  | .readCfg r => ∃ g, d = storeCfgGroup cfg.cntW r g c
  | .readComm => ∃ g, d = storeCommGroup g c
  | .readCellAll => ∃ k g, k < cfg.cellSubregs ∧ d = storeMeasurement cfg.cntW .cell k g c
  | .readAuxAll => ∃ k g, k < cfg.auxSubregs ∧ d = storeMeasurement cfg.cntW .aux k g c
  | .readStatAll => ∃ k g, k < cfg.statSubregs ∧ d = storeMeasurement cfg.cntW .stat k g c
  | .readCellOne k => ∃ g, k.toNat < cfg.cellSubregs ∧ d = storeMeasurement cfg.cntW .cell k.toNat g c
  | .readAuxOne k => ∃ g, k.toNat < cfg.auxSubregs ∧ d = storeMeasurement cfg.cntW .aux k.toNat g c
  | .readStatOne k => ∃ g, k.toNat < cfg.statSubregs ∧ d = storeMeasurement cfg.cntW .stat k.toNat g c
  | .resetCounters => d = zeroCounters c
  | _ => False

/-- From s to t each chip is changed by a chain of changes in R, and there are as many chips as before. -/
def ChipsBy (R : Chip → Chip → Prop) (s t : State) : Prop :=
  t.chips.length = s.chips.length ∧ ∀ j, ReflTransGen R (chipOf s j) (chipOf t j)

namespace ChipsBy

section
variable {R : Chip → Chip → Prop}

theorem of_chips_eq {s t : State} (h : t.chips = s.chips) : ChipsBy R s t :=
  ⟨congrArg _ h, fun j => by rw [chipOf, chipOf, h]⟩

theorem trans {s t u : State} (hst : ChipsBy R s t) (htu : ChipsBy R t u) : ChipsBy R s u :=
  ⟨htu.1.trans hst.1, fun j => (hst.2 j).trans (htu.2 j)⟩

theorem updChip {f : Chip → Chip} (hf : ∀ c, R c (f c)) (i : Nat) (s : State) : ChipsBy R s (updChip i f s) := by
  refine ⟨updChip_length i f s, fun j => ?_⟩
  rw [chipOf_updChip]
  split
  case isTrue h => exact h.1 ▸ .single (hf _)
  case isFalse => exact .refl

theorem storeAll {store : Group → Chip → Chip} (hstore : ∀ g c, R c (store g c)) (response : List Byte) (s : State) :
    ChipsBy R s (storeAll store response s) := by
  refine ⟨storeAll_length store response s, fun j => ?_⟩
  rw [chipOf_storeAll]
  split
  case isTrue => exact .single (hstore _ _)
  case isFalse => exact .refl

theorem readOne {store : Group → Chip → Chip} (hstore : ∀ g c, R c (store g c)) (c : CmdCode) (k id : Nat)
    (s : State) : ChipsBy R s (readOne c k id store s) := by
  obtain stored | shape := readOne_cases c k id store s
  · rw [stored]
    exact storeAll hstore (responseOf s) (exchange c s)
  · rw [shape]
    exact of_chips_eq rfl

theorem readAllFrom {kind : Kind} {ks : List Nat} {s : State} (mism : List (Nat × Nat))
    (hstore : ∀ k ∈ ks, ∀ g c, R c (storeMeasurement s.cfg.cntW kind k g c)) :
    ChipsBy R s (readAllFrom kind ks mism s) := by
  induction ks generalizing mism s with
  | nil => exact of_chips_eq rfl
  | cons k ks ih =>
    rw [Machine.readAllFrom]
    split
    case isTrue =>
      have stored := storeAll (hstore k List.mem_cons_self) (responseOf s) (exchange (code s (readName kind k)) s)
      have later : ∀ l ∈ ks, ∀ g c, R c (storeMeasurement s.cfg.cntW kind l g c) := fun l hl =>
        hstore l (List.mem_cons_of_mem k hl)
      exact (of_chips_eq rfl).trans (stored.trans (ih _ later))
    case isFalse => exact of_chips_eq rfl

theorem pollFrom (left k : Nat) (s : State) : ChipsBy R s (pollFrom left k s) := by
  induction left generalizing k s with
  | zero => exact of_chips_eq rfl
  | succ left ih =>
    rw [Machine.pollFrom]
    split
    case isTrue => exact (of_chips_eq rfl).trans (ih (k + 1) (busFill 1 s))
    case isFalse => exact of_chips_eq rfl

end

end ChipsBy

theorem zeroCounters_chipsBy {R : Chip → Chip → Prop} (hR : ∀ c, R c (zeroCounters c)) (s : State) :
    ChipsBy R s { s with chips := s.chips.map zeroCounters } := by
  refine ⟨List.length_map _, fun j => ?_⟩
  by_cases hj : j < s.chips.length
  · have changed : chipOf { s with chips := s.chips.map zeroCounters } j = zeroCounters (chipOf s j) := by
      simp [chipOf, hj]
    exact changed ▸ .single (hR _)
  · rw [chipOf_of_ge (s := s) (by omega), chipOf_of_ge (by rw [List.length_map]; omega)]

/-- The ranges of an accepted request bound its operands in `ChipEdit`. -/
theorem effectOf_chipsBy {i : Instr} {s : State} (hi : wellFormed s.cfg i = true) :
    ChipsBy (ChipEdit s.cfg i) s (effectOf s i) := by
  cases i with
  | pecCalc | sendCmd | writeCfg | writeComm | getCfgA | getCfgB | getComm | getCell | getAux | getStat | getPecFlag
  | getCounter | startAdcv | startAdax | startAdstat => exact .of_chips_eq rfl
  | wakeIdle => exact .of_chips_eq (by rw [effectOf, repeatStep_idleFill]; rfl)
  | wakeSleep => exact .of_chips_eq (by rw [effectOf, repeatStep_sleepBurst]; rfl)
  | setRefonA | setRefonB | setAdcoptA | setAdcoptB | setUvA | setUvB | setOvA | setOvB | setDccA | setDccB | setDctoA
  | setDctoB | setComm => 
    refine ChipsBy.updChip ?_ _ s
    exact fun c => rfl
  | setGpioA | setGpioB =>
    simp only [wellFormed, Bool.and_eq_true, decide_eq_true_eq] at hi
    exact ChipsBy.updChip (fun c => ⟨hi.2, rfl⟩) _ s
  | resetCounters =>
    refine zeroCounters_chipsBy ?_ s
    exact fun c => rfl
  | readCfg | readComm => exact ChipsBy.readOne (fun g c => ⟨g, rfl⟩) _ _ _ s
  | readCellOne | readAuxOne | readStatOne =>
    exact ChipsBy.readOne (fun g c => ⟨g, of_decide_eq_true hi, rfl⟩) _ _ _ s
  | readCellAll | readAuxAll | readStatAll =>
    exact ChipsBy.readAllFrom [] fun k hk g c => ⟨k, g, List.mem_range.mp hk, rfl⟩
  | poll => exact ChipsBy.pollFrom _ _ (busTx _ s)

theorem exec_chipsBy {i : Instr} {s t : State} (h : exec i s = .next t) : ChipsBy (ChipEdit s.cfg i) s t := by
  obtain ⟨v, -, rfl⟩ | ⟨accepted, rfl⟩ := exec_cases h
  · exact .of_chips_eq rfl
  · exact effectOf_chipsBy (wellFormed_of_acceptance accepted)

/-! ### The fields a change leaves as they are -/

theorem agreeOn_refl (f : RegField) (c : Chip) : agreeOn f c c := by
  cases f <;> simp [agreeOn]

theorem agreeOn_trans {f : RegField} {c d e : Chip} (hcd : agreeOn f c d) (hde : agreeOn f d e) : agreeOn f c e := by
  cases f <;> simp_all [agreeOn]

section
variable {f : RegField}

theorem agreeOn_setCfgGroup_tx {r : CfgReg} (hf : f ≠ .cfgTx r) (tx : Vector Byte 6) (c : Chip) :
    agreeOn f (setCfgGroup r { cfgGroup r c with tx := tx } c) c := by
  cases f with
  | cfgTx r' =>
    have hr : r' ≠ r := fun h => hf (h ▸ rfl)
    rw [agreeOn, cfgGroup_setCfgGroup_of_ne hr]
  | cfgRx r' | cfgPecErr r' => cases r <;> cases r' <;> rfl
  | cell | aux | stat | commTx | commRx | cnt => cases r <;> simp [agreeOn, setCfgGroup]

theorem agreeOn_packTx {r : CfgReg} (hf : f ≠ .cfgTx r) (k : Nat) (m v : Byte) (sh : Nat) (c : Chip) :
    agreeOn f (packTx r k m v sh c) c :=
  agreeOn_setCfgGroup_tx hf _ c

theorem agreeOn_storeUv {r : CfgReg} (hf : f ≠ .cfgTx r) (raw : BitVec 12) (c : Chip) : agreeOn f (storeUv r raw c) c :=
  agreeOn_trans (agreeOn_packTx hf _ _ _ _ _) (agreeOn_packTx hf _ _ _ _ c)

theorem agreeOn_storeOv {r : CfgReg} (hf : f ≠ .cfgTx r) (raw : BitVec 12) (c : Chip) : agreeOn f (storeOv r raw c) c :=
  agreeOn_trans (agreeOn_packTx hf _ _ _ _ _) (agreeOn_packTx hf _ _ _ _ c)

theorem agreeOn_setCommTx (hf : f ≠ .commTx) (bytes : Vector Byte 6) (c : Chip) :
    agreeOn f { c with commTx := bytes } c := by
  cases f with
  | commTx => exact absurd rfl hf
  | cfgTx r | cfgRx r | cfgPecErr r => cases r <;> rfl
  | cell | aux | stat | commRx | cnt => simp [agreeOn]

theorem agreeOn_storeCommGroup (hf : f ≠ .commRx) (g : Group) (c : Chip) : agreeOn f (storeCommGroup g c) c := by
  cases f with
  | commRx => exact absurd rfl hf
  | cfgTx r | cfgRx r | cfgPecErr r => cases r <;> rfl
  | cell | aux | stat | commTx | cnt => simp [agreeOn, storeCommGroup]

theorem agreeOn_setCnt (hf : f ≠ .cnt) (cnt : Vector Nat 14) (c : Chip) : agreeOn f { c with cnt := cnt } c := by
  cases f with
  | cnt => exact absurd rfl hf
  | cfgTx r | cfgRx r | cfgPecErr r => cases r <;> rfl
  | cell | aux | stat | commTx | commRx => simp [agreeOn]

theorem agreeOn_storeCfgGroup {r : CfgReg} (hrx : f ≠ .cfgRx r) (hflag : f ≠ .cfgPecErr r) (hcnt : f ≠ .cnt) (w : Nat)
    (g : Group) (c : Chip) : agreeOn f (storeCfgGroup w r g c) c := by
  rw [storeCfgGroup_eq]
  refine agreeOn_trans (agreeOn_setCnt hcnt _ _) ?_
  cases f with
  | cfgRx r' =>
    have hr : r' ≠ r := fun h => hrx (h ▸ rfl)
    rw [agreeOn, cfgGroup_setCfgGroup_of_ne hr]
  | cfgPecErr r' =>
    have hr : r' ≠ r := fun h => hflag (h ▸ rfl)
    rw [agreeOn, cfgGroup_setCfgGroup_of_ne hr]
  | cfgTx r' => cases r <;> cases r' <;> rfl
  | cell | aux | stat | commTx | commRx | cnt => cases r <;> simp [agreeOn, setCfgGroup]

/-- The field of the access table that the codes and flags of a kind are. -/
def fieldOf : Kind → RegField
  | .cell => .cell
  | .aux => .aux
  | .stat => .stat

theorem agreeOn_decodeGroup {kind : Kind} (hf : f ≠ fieldOf kind) (k : Nat) (g : Group) (c : Chip) :
    agreeOn f (decodeGroup kind k g c) c := by
  cases kind with
  | cell | aux =>
    cases f with
    | cfgTx r | cfgRx r | cfgPecErr r => cases r <;> rfl
    | cell | aux | stat | commTx | commRx | cnt => simp_all [agreeOn, decodeGroup, fieldOf]
  | stat =>
    rw [decodeGroup]
    split
    all_goals
      cases f with
      | cfgTx r | cfgRx r | cfgPecErr r => cases r <;> rfl
      | stat => exact absurd rfl hf
      | cell | aux | commTx | commRx | cnt => simp [agreeOn]

theorem agreeOn_setKindFlag {kind : Kind} (hf : f ≠ fieldOf kind) (k : Nat) (mismatch : Bool) (c : Chip) :
    agreeOn f (setKindFlag kind k mismatch c) c := by
  cases f with
  | cfgTx r | cfgRx r | cfgPecErr r => cases kind <;> cases r <;> rfl
  | commTx | commRx | cnt => cases kind <;> rfl
  | cell | aux | stat => cases kind <;> simp_all [agreeOn, setKindFlag, fieldOf]

theorem agreeOn_storeMeasurement {kind : Kind} (hf : f ≠ fieldOf kind) (hcnt : f ≠ .cnt) (w k : Nat) (g : Group)
    (c : Chip) : agreeOn f (storeMeasurement w kind k g c) c := by
  rw [storeMeasurement_eq]
  exact agreeOn_trans (agreeOn_setCnt hcnt _ _)
    (agreeOn_trans (agreeOn_setKindFlag hf k _ _) (agreeOn_decodeGroup hf k g c))

theorem agreeOn_zeroCounters (hcnt : f ≠ .cnt) (c : Chip) : agreeOn f (zeroCounters c) c :=
  agreeOn_setCnt hcnt _ c

/-! ### The "written by" column -/

theorem ne_of_writes {g : RegField} {i : Instr} (hg : writes g i = true) (hf : writes f i = false) : f ≠ g := by
  rintro rfl
  exact Bool.false_ne_true (hf.symm.trans hg)

theorem agreeOn_of_chipEdit {cfg : Cfg} {i : Instr} (hf : writes f i = false) {c d : Chip} (h : ChipEdit cfg i c d) :
    agreeOn f d c := by
  cases i with
  | setRefonA | setRefonB | setAdcoptA | setAdcoptB | setDccA | setDccB | setDctoA | setDctoB =>
    cases h
    exact agreeOn_packTx (ne_of_writes rfl hf) _ _ _ _ c
  | setGpioA | setGpioB =>
    obtain ⟨-, rfl⟩ := h
    exact agreeOn_packTx (ne_of_writes rfl hf) _ _ _ _ c
  | setUvA | setUvB =>
    cases h
    exact agreeOn_storeUv (ne_of_writes rfl hf) _ c
  | setOvA | setOvB =>
    cases h
    exact agreeOn_storeOv (ne_of_writes rfl hf) _ c
  | setComm =>
    cases h
    exact agreeOn_setCommTx (ne_of_writes rfl hf) _ c
  | readCfg r =>
    obtain ⟨g, rfl⟩ := h
    have lists_rx : writes (.cfgRx r) (.readCfg r) = true := decide_eq_true rfl
    have lists_flag : writes (.cfgPecErr r) (.readCfg r) = true := decide_eq_true rfl
    exact agreeOn_storeCfgGroup (ne_of_writes lists_rx hf) (ne_of_writes lists_flag hf) (ne_of_writes rfl hf) _ g c
  | readComm =>
    obtain ⟨g, rfl⟩ := h
    exact agreeOn_storeCommGroup (ne_of_writes rfl hf) g c
  | readCellAll | readAuxAll | readStatAll =>
    obtain ⟨k, g, -, rfl⟩ := h
    exact agreeOn_storeMeasurement (ne_of_writes rfl hf) (ne_of_writes rfl hf) _ k g c
  | readCellOne k | readAuxOne k | readStatOne k =>
    obtain ⟨g, -, rfl⟩ := h
    exact agreeOn_storeMeasurement (ne_of_writes rfl hf) (ne_of_writes rfl hf) _ _ g c
  | resetCounters =>
    cases h
    exact agreeOn_zeroCounters (ne_of_writes rfl hf) c
  | _ => exact h.elim

end

/-- Settles O17: each change a request can make to a chip leaves every field as it is that does not list the request. -/
theorem fieldsHaveOnlyTheirListedWriters : Obligations.FieldsHaveOnlyTheirListedWriters := by
  intro i s t h
  obtain ⟨length_eq, edits⟩ := exec_chipsBy h
  refine ⟨length_eq, fun f hf j => ?_⟩
  have chain := edits j
  generalize chipOf t j = d at chain ⊢
  induction chain with
  | refl => exact agreeOn_refl f _
  | tail _ edit agrees => exact agreeOn_trans (agreeOn_of_chipEdit hf edit) agrees

end Sys2Proof.Machine
end

section
/-! PROOFS. The invariant of a request boundary holds after reset and every step keeps it (10_state R30, R45, R47,
60_exceptions R341). -/

namespace Sys2Proof.Machine

/-! ### The invariant of a chip, field by field of the access table -/

/-- What the boundary invariant says of one field of a chip's register model. -/
def fieldInv (cfg : Cfg) (c : Chip) : RegField → Prop
  | .cfgTx r => (cfgTx r 0 c).getLsbD 1 = false
  | .cell => (∀ slot : Nat, 3 * cfg.cellSubregs ≤ slot → c.cellCodes[slot]?.getD 0 = 0) ∧
      ∀ k : Nat, cfg.cellSubregs ≤ k → c.cellPec[k]?.getD false = false
  | .aux => (∀ slot : Nat, 3 * cfg.auxSubregs ≤ slot → c.auxCodes[slot]?.getD 0 = 0) ∧
      ∀ k : Nat, cfg.auxSubregs ≤ k → c.auxPec[k]?.getD false = false
  | .stat => (∀ k : Nat, cfg.statSubregs ≤ k → c.statPec[k]?.getD false = false) ∧
      (2 ≤ cfg.statSubregs ∨ (c.statCodes[3]?.getD 0 = 0 ∧ (∀ k : Nat, c.statFlags[k]?.getD 0 = 0) ∧
        c.statMuxFail = false ∧ c.statThsd = false))
  | .cnt => ∀ id : Nat, c.cnt[id]?.getD 0 ≤ 2 ^ cfg.cntW - 1
  | .cfgRx _ | .cfgPecErr _ | .commTx | .commRx => True

theorem all_drop_iff {α : Type} {n : Nat} [BEq α] [LawfulBEq α] (v : Vector α n) (k : Nat) (a : α) :
    (v.toList.drop k).all (· == a) = true ↔ ∀ j : Nat, k ≤ j → v[j]?.getD a = a := by
  simp only [List.all_eq_true, beq_iff_eq, List.mem_iff_getElem?, List.getElem?_drop, Vector.getElem?_toList]
  constructor
  · intro h j hj
    cases hv : v[j]? with
    | none => rfl
    | some b => exact h b ⟨j - k, by rw [Nat.add_sub_cancel' hj, hv]⟩
  · rintro h b ⟨j, hb⟩
    have at_j := h (k + j) (Nat.le_add_right k j)
    rwa [hb] at at_j

theorem all_iff {α : Type} {n : Nat} [BEq α] [LawfulBEq α] (v : Vector α n) (a : α) :
    v.toList.all (· == a) = true ↔ ∀ j : Nat, v[j]?.getD a = a := by
  simpa using all_drop_iff v 0 a

theorem all_le_iff {n : Nat} (v : Vector Nat n) (b : Nat) :
    v.toList.all (fun x => decide (x ≤ b)) = true ↔ ∀ j : Nat, v[j]?.getD 0 ≤ b := by
  simp only [List.all_eq_true, decide_eq_true_eq, List.mem_iff_getElem?, Vector.getElem?_toList]
  constructor
  · intro h j
    cases hv : v[j]? with
    | none => exact Nat.zero_le b
    | some x => exact h x ⟨j, hv⟩
  · rintro h x ⟨j, hx⟩
    have at_j := h j
    rwa [hx] at at_j

theorem chipInv_iff (cfg : Cfg) (c : Chip) : chipInv cfg c = true ↔ ∀ f, fieldInv cfg c f := by
  simp only [chipInv, Bool.and_eq_true, Bool.or_eq_true, Bool.not_eq_true', decide_eq_true_eq, beq_iff_eq,
    all_drop_iff, all_iff, all_le_iff]
  constructor
  · rintro ⟨⟨⟨⟨⟨⟨⟨⟨counters, bit_a⟩, bit_b⟩, cell⟩, cell_flags⟩, aux⟩, aux_flags⟩, stat_flags⟩, status_b⟩ f
    cases f with
    | cfgTx r => cases r with | a => exact bit_a | b => exact bit_b
    | cell => exact ⟨cell, cell_flags⟩
    | aux => exact ⟨aux, aux_flags⟩
    | stat => exact ⟨stat_flags, by simpa only [and_assoc] using status_b⟩
    | cnt => exact counters
    | cfgRx | cfgPecErr | commTx | commRx => trivial
  · intro h
    obtain ⟨cell, cell_flags⟩ := h .cell
    obtain ⟨aux, aux_flags⟩ := h .aux
    obtain ⟨stat_flags, status_b⟩ := h .stat
    exact ⟨⟨⟨⟨⟨⟨⟨⟨h .cnt, h (.cfgTx .a)⟩, h (.cfgTx .b)⟩, cell⟩, cell_flags⟩, aux⟩, aux_flags⟩, stat_flags⟩,
      by simpa only [and_assoc] using status_b⟩

/-- The invariant of a field is about that field alone. -/
theorem fieldInv_of_agreeOn {cfg : Cfg} {f : RegField} {c d : Chip} (h : agreeOn f d c) (hc : fieldInv cfg c f) :
    fieldInv cfg d f := by
  cases f with
  | cfgTx r =>
    have tx_eq : cfgTx r 0 d = cfgTx r 0 c := by
      rw [cfgTx, cfgTx, show (cfgGroup r d).tx = (cfgGroup r c).tx from h]
    rwa [fieldInv, tx_eq]
  | cell => obtain ⟨codes, flags⟩ := h; rwa [fieldInv, codes, flags]
  | aux => obtain ⟨codes, flags⟩ := h; rwa [fieldInv, codes, flags]
  | stat => obtain ⟨codes, bytes, mux, thsd, flags⟩ := h; rwa [fieldInv, codes, bytes, mux, thsd, flags]
  | cnt => rwa [fieldInv, show d.cnt = c.cnt from h]
  | cfgRx | cfgPecErr | commTx | commRx => trivial

/-! ### The fields a request writes -/

/-- A field write outside bit 1 of byte 0 leaves that bit as it is. -/
theorem fieldInv_cfgTx_packTx {cfg : Cfg} {r : CfgReg} {c : Chip} (hc : fieldInv cfg c (.cfgTx r)) {k : Nat} {m : Byte}
    (v : Byte) (sh : Nat) (hm : k = 0 → m.getLsbD 1 = false) : fieldInv cfg (packTx r k m v sh c) (.cfgTx r) := by
  by_cases hk : k = 0
  · subst hk
    rw [fieldInv, cfgTx_packTx_self (k := 0) (by decide), packField_getLsbD, hm rfl]
    exact hc
  · rw [fieldInv, cfgTx_packTx_of_ne hk]
    exact hc

theorem getLsbD_one_bitMask {g : Nat} (hg : 2 ≤ g) : (bitMask g).getLsbD 1 = false := by
  simp [bitMask, show 1 < g by omega]

theorem dccPlace_ne_zero (c : Nat) : (dccPlace c).1 ≠ 0 := by
  unfold dccPlace
  split <;> simp

theorem cnt_le_of_account {w : Nat} {c : Chip} (hc : ∀ id : Nat, c.cnt[id]?.getD 0 ≤ 2 ^ w - 1) (id j : Nat) :
    (account w id c).cnt[j]?.getD 0 ≤ 2 ^ w - 1 := by
  have bump {e : Chip} (he : ∀ id : Nat, e.cnt[id]?.getD 0 ≤ 2 ^ w - 1) (id j : Nat) :
      (bumpCounter w id e).cnt[j]?.getD 0 ≤ 2 ^ w - 1 := by
    rw [bumpCounter_cnt]
    split
    case isTrue => exact satInc_le (he id)
    case isFalse => exact he j
  exact bump (bump hc 0) (counterId id) j

theorem fieldInv_cnt_storeMeasurement {cfg : Cfg} {c : Chip} (hc : fieldInv cfg c .cnt) (kind : Kind) (k : Nat)
    (g : Group) : fieldInv cfg (storeMeasurement cfg.cntW kind k g c) .cnt := by
  have stored : fieldInv cfg (setKindFlag kind k (!groupOk g) (decodeGroup kind k g c)) .cnt := by
    rw [fieldInv, setKindFlag_cnt, decodeGroup_cnt]
    exact hc
  rw [storeMeasurement]
  split
  case isTrue => exact stored
  case isFalse => exact cnt_le_of_account stored _

theorem fieldInv_cnt_storeCfgGroup {cfg : Cfg} {c : Chip} (hc : fieldInv cfg c .cnt) (r : CfgReg) (g : Group) :
    fieldInv cfg (storeCfgGroup cfg.cntW r g c) .cnt := by
  intro id
  rw [storeCfgGroup_cnt]
  split
  case isTrue => exact satInc_le (hc id)
  case isFalse => exact hc id

/-- Writing slots below b keeps the slots from b on at their reset value. -/
theorem getD_setThree_eq_zero {n a b : Nat} {v : Vector U16 n} (hv : ∀ slot : Nat, b ≤ slot → v[slot]?.getD 0 = 0)
    (f : Nat → U16) (han : a + 3 ≤ n) (hab : a + 3 ≤ b) (slot : Nat) (hslot : b ≤ slot) :
    (((v.setIfInBounds a (f 0)).setIfInBounds (a + 1) (f 1)).setIfInBounds (a + 2) (f 2))[slot]?.getD 0 = 0 := by
  rw [getElem?_setThree v f han, if_neg (by omega)]
  exact hv slot hslot

theorem getD_setFlag_eq_false {n k b : Nat} {v : Vector Bool n} (hv : ∀ j : Nat, b ≤ j → v[j]?.getD false = false)
    (flag : Bool) (hkb : k < b) (j : Nat) (hj : b ≤ j) : (v.setIfInBounds k flag)[j]?.getD false = false := by
  rw [Vector.getElem?_setIfInBounds_ne (by omega)]
  exact hv j hj

/-- Status sub-register A has neither code 3 nor the flag bytes and bits. -/
theorem fieldInv_stat_decodeGroup {cfg : Cfg} {k : Nat} (hk : k < cfg.statSubregs) {c : Chip}
    (hc : fieldInv cfg c .stat) (g : Group) : fieldInv cfg (decodeGroup .stat k g c) .stat := by
  obtain ⟨flags, unread⟩ := hc
  by_cases hk0 : k = 0
  · subst hk0
    refine ⟨flags, unread.imp_right fun ⟨code3, rest⟩ => ⟨?_, rest⟩⟩
    rw [statCodes_decodeGroup_zero, getElem?_setThree c.statCodes (groupCode g) (by decide), if_neg (by decide)]
    exact code3
  · have kept : (decodeGroup .stat k g c).statPec = c.statPec := by rw [decodeGroup, if_neg hk0]
    exact ⟨kept ▸ flags, .inl (by omega)⟩

/-- A sub-register of the shape is below those that keep their reset value. -/
theorem fieldInv_fieldOf_storeMeasurement {cfg : Cfg} (wf : configWellFormed cfg = true) {kind : Kind} {k : Nat}
    (hk : k < subregs cfg kind) {c : Chip} (hc : fieldInv cfg c (fieldOf kind)) (g : Group) :
    fieldInv cfg (storeMeasurement cfg.cntW kind k g c) (fieldOf kind) := by
  have room := subregs_le_maxSubregs wf kind
  rw [storeMeasurement_eq]
  cases kind with
  | cell | aux =>
    simp only [subregs, maxSubregs] at hk room
    obtain ⟨codes, flags⟩ := hc
    exact ⟨getD_setThree_eq_zero codes (groupCode g) (by omega) (by omega), getD_setFlag_eq_false flags _ hk⟩
  | stat =>
    obtain ⟨flags, unread⟩ := fieldInv_stat_decodeGroup hk hc g
    exact ⟨getD_setFlag_eq_false flags _ hk, unread⟩

/-! ### Each change a request can make

It keeps the invariant of a field that it writes by what it writes there, and of any other since it leaves it as it is. -/

section
variable {cfg : Cfg} {c : Chip} (hc : ∀ f, fieldInv cfg c f) (f : RegField)
include hc

theorem fieldInv_packTx (r : CfgReg) {k : Nat} {m : Byte} (v : Byte) (sh : Nat) (hm : k = 0 → m.getLsbD 1 = false) :
    fieldInv cfg (packTx r k m v sh c) f := by
  by_cases hf : f = .cfgTx r
  · exact hf ▸ fieldInv_cfgTx_packTx (hc _) v sh hm
  · exact fieldInv_of_agreeOn (agreeOn_packTx hf _ _ _ _ c) (hc f)

theorem fieldInv_storeUv (r : CfgReg) (raw : BitVec 12) : fieldInv cfg (storeUv r raw c) f := by
  rw [storeUv]
  refine fieldInv_packTx (fun f => ?_) f r _ _ (by decide)
  exact fieldInv_packTx hc f r _ _ (by decide)

theorem fieldInv_storeOv (r : CfgReg) (raw : BitVec 12) : fieldInv cfg (storeOv r raw c) f := by
  rw [storeOv]
  refine fieldInv_packTx (fun f => ?_) f r _ _ (by decide)
  exact fieldInv_packTx hc f r _ _ (by decide)

theorem fieldInv_storeCfgGroup (r : CfgReg) (g : Group) : fieldInv cfg (storeCfgGroup cfg.cntW r g c) f := by
  by_cases hcnt : f = .cnt
  · exact hcnt ▸ fieldInv_cnt_storeCfgGroup (hc .cnt) r g
  · cases f with
    | cfgRx | cfgPecErr => trivial
    | cfgTx | cell | aux | stat | commTx | commRx | cnt =>
      refine fieldInv_of_agreeOn (agreeOn_storeCfgGroup ?_ ?_ hcnt _ g c) (hc _) <;> nofun

theorem fieldInv_storeMeasurement (wf : configWellFormed cfg = true) {kind : Kind} {k : Nat}
    (hk : k < subregs cfg kind) (g : Group) : fieldInv cfg (storeMeasurement cfg.cntW kind k g c) f := by
  by_cases hcnt : f = .cnt
  · exact hcnt ▸ fieldInv_cnt_storeMeasurement (hc .cnt) kind k g
  · by_cases hf : f = fieldOf kind
    · exact hf ▸ fieldInv_fieldOf_storeMeasurement wf hk (hc _) g
    · exact fieldInv_of_agreeOn (agreeOn_storeMeasurement hf hcnt _ k g c) (hc f)

theorem fieldInv_zeroCounters : fieldInv cfg (zeroCounters c) f := by
  by_cases hcnt : f = .cnt
  · subst hcnt
    intro id
    by_cases hid : id < 14 <;> simp [zeroCounters, hid]
  · exact fieldInv_of_agreeOn (agreeOn_zeroCounters hcnt c) (hc f)

theorem fieldInv_of_chipEdit (wf : configWellFormed cfg = true) {i : Instr} {d : Chip} (h : ChipEdit cfg i c d) :
    fieldInv cfg d f := by
  cases i with
  | setRefonA | setRefonB | setAdcoptA | setAdcoptB =>
    cases h
    exact fieldInv_packTx hc f _ _ _ fun _ => by decide
  | setGpioA | setGpioB =>
    obtain ⟨-, rfl⟩ := h
    exact fieldInv_packTx hc f _ _ _ fun _ => getLsbD_one_bitMask (by omega)
  | setUvA | setUvB =>
    cases h
    exact fieldInv_storeUv hc f _ _
  | setOvA | setOvB =>
    cases h
    exact fieldInv_storeOv hc f _ _
  | setDccA | setDccB =>
    cases h
    exact fieldInv_packTx hc f _ _ _ fun byte0 => absurd byte0 (dccPlace_ne_zero _)
  | setDctoA | setDctoB =>
    cases h
    exact fieldInv_packTx hc f _ _ _ nofun
  | setComm =>
    cases h
    by_cases hf : f = .commTx
    · subst hf; trivial
    · exact fieldInv_of_agreeOn (agreeOn_setCommTx hf _ c) (hc f)
  | readCfg r =>
    obtain ⟨g, rfl⟩ := h
    exact fieldInv_storeCfgGroup hc f r g
  | readComm =>
    obtain ⟨g, rfl⟩ := h
    by_cases hf : f = .commRx
    · subst hf; trivial
    · exact fieldInv_of_agreeOn (agreeOn_storeCommGroup hf g c) (hc f)
  | readCellAll | readAuxAll | readStatAll =>
    obtain ⟨k, g, hk, rfl⟩ := h
    exact fieldInv_storeMeasurement hc f wf hk g
  | readCellOne | readAuxOne | readStatOne =>
    obtain ⟨g, hk, rfl⟩ := h
    exact fieldInv_storeMeasurement hc f wf hk g
  | resetCounters =>
    cases h
    exact fieldInv_zeroCounters hc f
  | _ => exact h.elim

end

theorem fieldInv_zero (cfg : Cfg) (f : RegField) : fieldInv cfg Chip.zero f := by
  have replicate_getD {α : Type} (n j : Nat) (a : α) : (Vector.replicate n a)[j]?.getD a = a := by
    by_cases hj : j < n <;> simp [hj]
  cases f with
  | cfgTx r => rw [fieldInv, cfgTx, cfgGroup_zero]; rfl
  | cell | aux => exact ⟨fun _ _ => replicate_getD _ _ _, fun _ _ => replicate_getD _ _ _⟩
  | stat => exact ⟨fun _ _ => replicate_getD _ _ _, .inr ⟨rfl, fun _ => replicate_getD _ _ _, rfl, rfl⟩⟩
  | cnt => exact fun id => (replicate_getD 14 id 0).trans_le (Nat.zero_le _)
  | cfgRx | cfgPecErr | commTx | commRx => trivial

theorem fieldInv_of_exec {i : Instr} {s t : State} (wf : configWellFormed s.cfg = true) (h : exec i s = .next t) (j : Nat)
    (hs : ∀ f, fieldInv s.cfg (chipOf s j) f) : ∀ f, fieldInv s.cfg (chipOf t j) f := by
  have chain := (exec_chipsBy h).2 j
  generalize chipOf t j = d at chain ⊢
  induction chain with
  | refl => exact hs
  | tail _ edit kept => exact fun f => fieldInv_of_chipEdit kept f wf edit

/-! ### The shape of a result -/

theorem resultInv_ok {cfg : Cfg} {val : Nat} (h : val < 2 ^ max 32 cfg.cntW) : resultInv cfg ⟨.ok, val, []⟩ = true := by
  simp [resultInv, h]

theorem lt_two_pow_max {val : Nat} (cfg : Cfg) (h : val < 2 ^ 32) : val < 2 ^ max 32 cfg.cntW :=
  h.trans_le (Nat.pow_le_pow_right (by decide) (le_max_left 32 cfg.cntW))

theorem bitNat_le_one (v : Bool) : bitNat v ≤ 1 := by
  cases v <;> decide

theorem cfgFieldValue_lt (bytes : List Byte) (f x : Nat) : cfgFieldValue bytes f x < 2 ^ 32 := by
  have uv_lt := (uvOf bytes).isLt
  have ov_lt := (ovOf bytes).isLt
  unfold cfgFieldValue
  split
  case h_1 | h_2 | h_3 => exact (bitNat_le_one _).trans_lt (by decide)
  case h_8 => split <;> exact (bitNat_le_one _).trans_lt (by decide)
  all_goals omega

theorem statFieldValue_lt (c : Chip) (f : Nat) : statFieldValue c f < 2 ^ 32 := by
  unfold statFieldValue
  split
  case isTrue => omega
  case isFalse =>
    split
    case isTrue => omega
    case isFalse => split <;> exact (bitNat_le_one _).trans_lt (by decide)

/-- From s to t one result is appended, of a legal shape. -/
def EndsLegal (s t : State) : Prop :=
  ∃ r, t.results = s.results ++ [r] ∧ resultInv s.cfg r = true

theorem EndsLegal.of_ok {s t : State} {val : Nat} (h : t.results = s.results) (hval : val < 2 ^ 32) :
    EndsLegal s (finishOk val t) :=
  ⟨⟨.ok, val, []⟩, by rw [finishOk_results, h], resultInv_ok (lt_two_pow_max s.cfg hval)⟩

/-! ### The mismatches of a read -/

/-- A list of mismatches of at most b exchanges: chips of the chain, and register ids of 30_encoding R106. -/
def LegalMismatches (cfg : Cfg) (b : Nat) (mism : List (Nat × Nat)) : Prop :=
  mism.length ≤ b * cfg.n ∧ ∀ m ∈ mism, m.1 < cfg.n ∧ m.2 ≤ 14

theorem legalMismatches_nil (cfg : Cfg) (b : Nat) : LegalMismatches cfg b [] :=
  ⟨Nat.zero_le _, fun _ hm => absurd hm List.not_mem_nil⟩

theorem LegalMismatches.append {cfg : Cfg} {a b : Nat} {l m : List (Nat × Nat)} (hl : LegalMismatches cfg a l)
    (hm : LegalMismatches cfg b m) : LegalMismatches cfg (a + b) (l ++ m) := by
  obtain ⟨l_length, l_range⟩ := hl
  obtain ⟨m_length, m_range⟩ := hm
  refine ⟨?_, fun x hx => (List.mem_append.mp hx).elim (l_range x) (m_range x)⟩
  rw [List.length_append, Nat.add_mul]
  exact Nat.add_le_add l_length m_length

theorem legalMismatches_mismatches (cfg : Cfg) (response : List Byte) {id : Nat} (hid : id ≤ 14) :
    LegalMismatches cfg 1 (mismatches cfg response id) := by
  refine ⟨?_, fun m hm => ?_⟩
  · rw [mismatches, List.length_map, Nat.one_mul]
    exact (List.length_filter_le _ _).trans_eq List.length_range
  · obtain ⟨chip_lt, id_eq⟩ := mem_mismatches hm
    exact ⟨chip_lt, id_eq ▸ hid⟩

section
variable {cfg : Cfg} {b : Nat} {mism : List (Nat × Nat)} (hb : b * cfg.n < 2 ^ 32) (h : LegalMismatches cfg b mism)
include hb h

theorem resultInv_readResult : resultInv cfg (readResult mism) = true := by
  obtain ⟨length_le, range⟩ := h
  have val_lt : mism.length < 2 ^ max 32 cfg.cntW := lt_two_pow_max cfg (length_le.trans_lt hb)
  cases mism with
  | nil => exact resultInv_ok val_lt
  | cons m l =>
    rw [List.length_cons] at val_lt
    simpa [resultInv, readResult, val_lt] using range

omit hb in
theorem resultInv_shapeError {k : Nat} (hk : k < 6) : resultInv cfg ⟨.shapeError, k, mism⟩ = true := by
  have val_lt : k < 2 ^ max 32 cfg.cntW := lt_two_pow_max cfg (by omega)
  simpa [resultInv, val_lt, hk] using h.2

end

section
variable {s : State} (wf : configWellFormed s.cfg = true)
include wf

theorem six_mul_n_lt : 6 * s.cfg.n < 2 ^ 32 := by
  simp only [configWellFormed, Bool.and_eq_true, decide_eq_true_eq] at wf
  omega

theorem readOne_endsLegal {k id : Nat} (hk : k < 6) (hid : id ≤ 14) (c : CmdCode) (store : Group → Chip → Chip) :
    EndsLegal s (readOne c k id store s) := by
  have legal := legalMismatches_mismatches s.cfg (responseOf s) hid
  obtain stored | shape := readOne_cases c k id store s
  · rw [stored]
    have few : 1 * s.cfg.n < 2 ^ 32 := by
      have := six_mul_n_lt wf
      omega
    exact ⟨_, rfl, resultInv_readResult few legal⟩
  · rw [shape]
    exact ⟨⟨.shapeError, k, []⟩, rfl, resultInv_shapeError (legalMismatches_nil s.cfg 0) hk⟩

end

theorem readAllFrom_endsLegal {kind : Kind} {ks : List Nat} {b : Nat} {mism : List (Nat × Nat)} {s : State}
    (hks : ∀ k ∈ ks, k < 6 ∧ regId kind k ≤ 14) (hb : (b + ks.length) * s.cfg.n < 2 ^ 32)
    (h : LegalMismatches s.cfg b mism) : EndsLegal s (readAllFrom kind ks mism s) := by
  induction ks generalizing b mism s with
  | nil => exact ⟨_, rfl, resultInv_readResult hb h⟩
  | cons k ks ih =>
    obtain ⟨hk, hid⟩ := hks k List.mem_cons_self
    rw [readAllFrom]
    split
    case isTrue =>
      refine ih (b := b + 1) (s := storeAll _ _ (exchange _ s)) (fun l hl => hks l (List.mem_cons_of_mem k hl)) ?_
        (h.append (legalMismatches_mismatches s.cfg _ hid))
      rw [List.length_cons, Nat.add_comm ks.length, ← Nat.add_assoc] at hb
      exact hb
    case isFalse => exact ⟨_, rfl, resultInv_shapeError h hk⟩

/-! ### Every request -/

theorem subreg_legal {cfg : Cfg} (wf : configWellFormed cfg = true) {kind : Kind} {k : Nat} (hk : k < subregs cfg kind) :
    k < 6 ∧ regId kind k ≤ 14 := by
  have room := subregs_le_maxSubregs wf kind
  cases kind <;> simp only [maxSubregs, regId] at room ⊢ <;> omega

theorem readSubreg_endsLegal {s : State} (wf : configWellFormed s.cfg = true) {kind : Kind} {k : Nat}
    (hk : k < subregs s.cfg kind) {c : CmdCode} {store : Group → Chip → Chip} :
    EndsLegal s (readOne c k (regId kind k) store s) := by
  obtain ⟨k_lt, id_le⟩ := subreg_legal wf hk
  exact readOne_endsLegal wf k_lt id_le c store

theorem readAll_endsLegal {s : State} (wf : configWellFormed s.cfg = true) (kind : Kind) :
    EndsLegal s (readAllFrom kind (List.range (subregs s.cfg kind)) [] s) := by
  have few : subregs s.cfg kind ≤ 6 := (subregs_le_maxSubregs wf kind).trans (by cases kind <;> decide)
  refine readAllFrom_endsLegal (b := 0) (fun k hk => subreg_legal wf (List.mem_range.mp hk)) ?_ (legalMismatches_nil s.cfg 0)
  rw [List.length_range, Nat.zero_add]
  exact (Nat.mul_le_mul_right _ few).trans_lt (six_mul_n_lt wf)

theorem pollFrom_endsLegal {left k : Nat} {s : State} (hk : 1 ≤ k) (hleft : k + left ≤ s.cfg.pollMax + 1)
    (hmax : s.cfg.pollMax < 2 ^ 32) : EndsLegal s (pollFrom left k s) := by
  induction left generalizing k s with
  | zero => exact ⟨_, rfl, by simp [resultInv]⟩
  | succ left ih =>
    rw [pollFrom]
    split
    case isTrue => exact ih (s := busFill 1 s) (by omega) (by rw [busFill_cfg]; omega) hmax
    case isFalse =>
      have val_lt := lt_two_pow_max s.cfg (val := k) (by omega)
      have k_le : k ≤ s.cfg.pollMax := by omega
      exact ⟨⟨.convDone, k, []⟩, rfl, by simp [resultInv, val_lt, hk, k_le]⟩

theorem effectOf_endsLegal {i : Instr} {s : State} (wf : configWellFormed s.cfg = true)
    (hi : wellFormed s.cfg i = true) (hcnt : ∀ chip c, counterAt s chip c ≤ 2 ^ s.cfg.cntW - 1) :
    EndsLegal s (effectOf s i) := by
  have value_lt {w : Nat} (hw : w ≤ 32) (v : BitVec w) : v.toNat < 2 ^ 32 :=
    v.isLt.trans_le (Nat.pow_le_pow_right (by decide) hw)
  cases i with
  | pecCalc | setUvA | setUvB | setOvA | setOvB | getComm | getCell | getAux | startAdcv | startAdax | startAdstat =>
    exact .of_ok rfl (value_lt (by decide) _)
  | sendCmd | writeCfg | writeComm | setRefonA | setRefonB | setAdcoptA | setAdcoptB | setGpioA | setGpioB | setDccA
  | setDccB | setDctoA | setDctoB | setComm | resetCounters => exact .of_ok rfl (by decide)
  | wakeIdle => exact .of_ok (by rw [repeatStep_idleFill]) (by decide)
  | wakeSleep => exact .of_ok (by rw [repeatStep_sleepBurst]) (by decide)
  | getCfgA | getCfgB => exact .of_ok rfl (cfgFieldValue_lt _ _ _)
  | getStat => exact .of_ok rfl (statFieldValue_lt _ _)
  | getPecFlag => exact .of_ok rfl ((bitNat_le_one _).trans_lt (by decide))
  | getCounter chip id =>
    have width_le : 2 ^ s.cfg.cntW ≤ 2 ^ max 32 s.cfg.cntW :=
      Nat.pow_le_pow_right (by decide) (le_max_right 32 s.cfg.cntW)
    have pos : 0 < 2 ^ s.cfg.cntW := Nat.two_pow_pos _
    have val_le := hcnt chip.toNat id.toNat
    exact ⟨_, rfl, resultInv_ok (by omega)⟩
  | readCfg r => exact readOne_endsLegal wf (by decide) (by cases r <;> decide) _ _
  | readComm => exact readOne_endsLegal wf (by decide) (by decide) _ _
  | readCellOne => exact readSubreg_endsLegal wf (kind := .cell) (of_decide_eq_true hi)
  | readAuxOne => exact readSubreg_endsLegal wf (kind := .aux) (of_decide_eq_true hi)
  | readStatOne => exact readSubreg_endsLegal wf (kind := .stat) (of_decide_eq_true hi)
  | readCellAll => exact readAll_endsLegal wf .cell
  | readAuxAll => exact readAll_endsLegal wf .aux
  | readStatAll => exact readAll_endsLegal wf .stat
  | poll =>
    simp only [configWellFormed, Bool.and_eq_true, decide_eq_true_eq] at wf
    obtain ⟨⟨⟨-, -, max_le⟩, -⟩, -⟩ := wf
    exact pollFrom_endsLegal (s := busTx _ s) le_rfl (Nat.add_comm 1 _).le (by rw [busTx_cfg]; omega)

/-! ### The boundary invariant -/

theorem boundaryInv_iff (s : State) : boundaryInv s = true ↔
    s.chips.length = s.cfg.n ∧ s.seq = .ready ∧ (∀ j, j < s.chips.length → ∀ f, fieldInv s.cfg (chipOf s j) f) ∧
      ∀ r ∈ s.results, resultInv s.cfg r = true := by
  have chips_iff : s.chips.all (chipInv s.cfg) = true ↔
      ∀ j, j < s.chips.length → ∀ f, fieldInv s.cfg (chipOf s j) f := by
    simp only [List.all_eq_true, chipInv_iff, List.forall_mem_iff_forall_getElem]
    exact forall₂_congr fun j hj => by rw [chipOf_of_lt hj]
  simp only [boundaryInv, Bool.and_eq_true, decide_eq_true_eq, chips_iff, List.all_eq_true, and_assoc]

theorem EndsLegal.results {s t : State} (h : EndsLegal s t) (hs : ∀ r ∈ s.results, resultInv s.cfg r = true) :
    ∀ r ∈ t.results, resultInv s.cfg r = true := by
  obtain ⟨r, results_eq, legal⟩ := h
  rw [results_eq]
  intro x hx
  obtain old | rfl := List.mem_append.mp hx |>.imp_right List.mem_singleton.mp
  · exact hs x old
  · exact legal

theorem raise_endsLegal {st : Status} {v : Nat} {s : State} (h : resultInv s.cfg ⟨st, v, []⟩ = true) :
    EndsLegal s (raiseStatus st v s) :=
  ⟨_, rfl, h⟩

theorem resultInv_invalidParam (cfg : Cfg) {v : Nat} (hv : 1 ≤ v ∧ v ≤ 4) :
    resultInv cfg ⟨.invalidParam, v, []⟩ = true := by
  have val_lt := lt_two_pow_max cfg (val := v) (by omega)
  simp [resultInv, val_lt, hv]

theorem reason_of_rejection {c : Cfg} {payload : List Byte} {i : Instr} {v : Nat}
    (h : rejection c payload i = some v) : 1 ≤ v ∧ v ≤ 4 := by
  unfold rejection at h
  split_ifs at h <;> cases h <;> decide

theorem exec_endsLegal {i : Instr} {s t : State} (wf : configWellFormed s.cfg = true)
    (hcnt : ∀ chip c, counterAt s chip c ≤ 2 ^ s.cfg.cntW - 1) (h : exec i s = .next t) : EndsLegal s t := by
  obtain ⟨v, rejected, rfl⟩ | ⟨accepted, rfl⟩ := exec_cases h
  · exact raise_endsLegal (resultInv_invalidParam _ (reason_of_rejection rejected))
  · exact effectOf_endsLegal wf (wellFormed_of_acceptance accepted) hcnt

theorem rejectWord_endsLegal (e : DecodeError) (s : State) : EndsLegal s (rejectWord e s) := by
  cases e with
  | illegalOp op =>
    have op_lt : op.toNat < 256 := op.isLt
    have val_lt := lt_two_pow_max s.cfg (val := op.toNat) (by omega)
    exact raise_endsLegal (by simp [resultInv, val_lt, op_lt])
  | reservedBits => exact raise_endsLegal (resultInv_invalidParam _ (by decide))

theorem boundaryInv_of_exec {i : Instr} {s t : State} (wf : configWellFormed s.cfg = true) (hs : boundaryInv s = true)
    (h : exec i s = .next t) : boundaryInv t = true := by
  obtain ⟨length_eq, ready, chips, results⟩ := (boundaryInv_iff s).mp hs
  have chip_ok (j : Nat) : ∀ f, fieldInv s.cfg (chipOf s j) f := by
    by_cases hj : j < s.chips.length
    · exact chips j hj
    · rw [chipOf_of_ge (by omega)]
      exact fieldInv_zero s.cfg
  have cfg_eq : t.cfg = s.cfg := (configurationIsConstant i s t h).1
  have seq_eq : t.seq = s.seq := (configurationIsConstant i s t h).2.1
  have length_kept : t.chips.length = s.chips.length := (exec_chipsBy h).1
  have counters (chip c : Nat) : counterAt s chip c ≤ 2 ^ s.cfg.cntW - 1 := chip_ok chip .cnt c
  rw [boundaryInv_iff, cfg_eq, seq_eq, length_kept]
  exact ⟨length_eq, ready, fun j _ => fieldInv_of_exec wf h j (chip_ok j),
    (exec_endsLegal wf counters h).results results⟩

theorem boundaryInv_rejectWord (e : DecodeError) {s : State} (hs : boundaryInv s = true) :
    boundaryInv (rejectWord e s) = true := by
  obtain ⟨length_eq, ready, chips, results⟩ := (boundaryInv_iff s).mp hs
  have legal := (rejectWord_endsLegal e s).results results
  cases e with
  | illegalOp | reservedBits => exact (boundaryInv_iff _).mpr ⟨length_eq, ready, chips, legal⟩

theorem configWellFormed_of_step {s t : State} (h : step s = .next t) : configWellFormed s.cfg = true := by
  rw [step] at h
  split at h
  case isTrue wf => exact wf
  case isFalse => cases h

/-- Settles O19: a request edits chips one change at a time, each of which keeps the invariant of every field, and ends
with a result of a legal shape; presenting it touches nothing that the invariant reads. -/
theorem stepKeepsTheBoundaryInvariant : Obligations.StepKeepsTheBoundaryInvariant := by
  intro s t hs h
  have wf := configWellFormed_of_step h
  obtain ⟨-, rfl⟩ | ⟨rq, rest, -, ran⟩ := step_cases h
  · exact hs
  · have presented_ok : boundaryInv (present rq s) = true := hs
    cases decoded : decode rq.word with
    | ok i =>
      rw [runWord_of_request decoded] at ran
      exact boundaryInv_of_exec (s := present rq s) wf presented_ok ran
    | error e =>
      rw [runWord_of_error decoded] at ran
      cases ran
      exact boundaryInv_rejectWord e presented_ok

/-- Settles O20: every chip right after reset is the zero chip, and there is no result yet. -/
theorem boundaryInvariantAfterReset : Obligations.BoundaryInvariantAfterReset := by
  refine ⟨fun c => (boundaryInv_iff _).mpr ⟨List.length_replicate, rfl, fun j hj => ?_, nofun⟩, rfl, by decide⟩
  have zero : chipOf (State.resetWith c) j = Chip.zero := by
    rw [chipOf_of_lt hj]
    exact eq_zero_of_mem_resetWith_chips (List.getElem_mem hj)
  exact zero ▸ fieldInv_zero c

end Sys2Proof.Machine
end

section
/-! PROOFS. What the PEC check detects (40_pec15 R143, R144). -/

namespace Sys2Proof.Machine

/-! ### Stuck and odd PECs -/

theorem getLsbD_zero_pec16 (bytes : List Byte) : (pec16 bytes).getLsbD 0 = false := by
  simp [pec16]

theorem pecOk_eq_false_of_odd (data : List Byte) (h : Byte) {l : Byte} (hl : l.getLsbD 0 = true) :
    pecOk data h l = false := by
  refine beq_false_of_ne fun pec_eq => ?_
  have odd : ((h.setWidth 16 <<< 8) ||| l.setWidth 16).getLsbD 0 = true := by simpa using hl
  rw [← pec_eq, getLsbD_zero_pec16] at odd
  cases odd

theorem pec15_eq_zero_of_pec16 {bytes : List Byte} (h : pec16 bytes = 0) : pec15 bytes = 0 := by
  refine BitVec.eq_of_getLsbD_eq fun j hj => ?_
  have bit_eq := congrArg (fun w : BitVec 16 => w.getLsbD (j + 1)) h
  simpa [pec16, show j + 1 < 16 by omega, show j < 16 by omega] using bit_eq

/-- Zero bytes keep a zero remainder zero, and so, being injective, the seed away from it. -/
theorem pec15_replicate_zero_ne_zero (n : Nat) : pec15 (List.replicate n 0) ≠ 0 := by
  have fixed : (List.replicate n 0).foldl pecByte 0 = 0 := by
    induction n with
    | zero => rfl
    | succ n ih => rwa [List.replicate_succ, List.foldl_cons, show pecByte 0 0 = 0 by decide]
  intro h
  have seed_zero : pecSeed = 0 := foldl_injective pecByte_injective_left (List.replicate n 0) (h.trans fixed.symm)
  exact absurd seed_zero (by decide)

theorem blockGood_zeros : blockGood (List.replicate 8 0x00) = false :=
  beq_false_of_ne fun pec_eq => pec15_replicate_zero_ne_zero 6 (pec15_eq_zero_of_pec16 pec_eq)

theorem blockGood_ones : blockGood (List.replicate 8 0xFF) = false :=
  pecOk_eq_false_of_odd _ _ (by decide)

/-- Settles O24: the remainder is shifted left by one bit, so bit 0 is 0; of the stuck blocks one has an odd PEC, and
the PEC of zeros is not 0. -/
theorem oddOrStuckPecMismatches : Obligations.OddOrStuckPecMismatches :=
  ⟨getLsbD_zero_pec16, fun data h _ hl => pecOk_eq_false_of_odd data h hl, blockGood_zeros, blockGood_ones⟩

/-! ### Errors in one byte -/

theorem byteAt_pecBytes_zero (data : List Byte) : byteAt (pecBytes data) 0 = (pec16 data).extractLsb' 8 8 := rfl

theorem byteAt_pecBytes_one (data : List Byte) : byteAt (pecBytes data) 1 = (pec16 data).extractLsb' 0 8 := rfl

/-- The check compares both PEC bytes. -/
theorem pecOk_iff (data : List Byte) (h l : Byte) :
    pecOk data h l = true ↔ (pec16 data).extractLsb' 8 8 = h ∧ (pec16 data).extractLsb' 0 8 = l := by
  have high_byte : ((h.setWidth 16 <<< 8) ||| l.setWidth 16).extractLsb' 8 8 = h := by
    ext j hj
    interval_cases j <;> simp
  have low_byte : ((h.setWidth 16 <<< 8) ||| l.setWidth 16).extractLsb' 0 8 = l := by
    ext j hj
    interval_cases j <;> simp
  rw [pecOk, beq_iff_eq]
  constructor
  · intro pec_eq
    rw [pec_eq]
    exact ⟨high_byte, low_byte⟩
  · rintro ⟨rfl, rfl⟩
    exact (joinBytes_extract _).symm

theorem xor_ne_self {b e : Byte} (he : e ≠ 0) : b ≠ b ^^^ e := fun unchanged =>
  he ((BitVec.xor_right_inj b).mp (BitVec.xor_zero.trans unchanged)).symm

/-- Settles O25: the remainder tells two lists apart that differ in one byte, and the check compares both received PEC
bytes. -/
theorem singleByteErrorIsDetected : Obligations.SingleByteErrorIsDetected := by
  intro data b e hlen hb he
  have in_data : b < data.length := hlen ▸ hb
  have changed : byteAt data b ^^^ e ≠ data[b] := by
    rw [byteAt, List.getElem?_eq_getElem in_data]
    exact (xor_ne_self he).symm
  have pec_ne := pec16_set_ne in_data changed
  rw [byteAt_pecBytes_zero, byteAt_pecBytes_one]
  refine ⟨pec_ne, ?data_byte, ?high_byte, ?low_byte⟩
  case data_byte =>
    rw [pecOk_extract]
    exact beq_false_of_ne pec_ne
  case high_byte => exact Bool.eq_false_iff.mpr fun ok => xor_ne_self he ((pecOk_iff _ _ _).mp ok).1
  case low_byte => exact Bool.eq_false_iff.mpr fun ok => xor_ne_self he ((pecOk_iff _ _ _).mp ok).2

end Sys2Proof.Machine
end

section
/-! PROOFS. When a configuration is well-formed, and what the mirrored flags have to do with the position map (00_scope
R9). -/

namespace Sys2Proof.Machine

theorem one_le_wakeSleepBytes_iff (c : Cfg) : 1 ≤ wakeSleepBytes c ↔ 1 ≤ c.fSck := by
  unfold wakeSleepBytes
  omega

/-- With one flag per chip, condition (b) on the flags and on the list of flags agree. -/
theorem revOf_mirror_iff {c : Cfg} (hlen : c.rev.length = c.n) {i : Nat} (hi : i < c.n) :
    revOf c i = revOf c (c.n - 1 - i) ↔ c.rev[i]? = c.rev[c.n - 1 - i]? := by
  have at_i : c.rev[i]? = some c.rev[i] := List.getElem?_eq_getElem _
  have at_mirror : c.rev[c.n - 1 - i]? = some c.rev[c.n - 1 - i] := List.getElem?_eq_getElem _
  rw [revOf, revOf, at_i, at_mirror, Option.some_inj]
  rfl

theorem configWellFormed_iff (c : Cfg) : configWellFormed c = true ↔
    (1 ≤ c.n ∧ c.n ≤ 256) ∧ c.rev.length = c.n ∧ (∀ i, i < c.n → c.rev[i]? = c.rev[c.n - 1 - i]?) ∧
    (1 ≤ c.cellSubregs ∧ c.cellSubregs ≤ 6) ∧ (1 ≤ c.auxSubregs ∧ c.auxSubregs ≤ 4) ∧
    (1 ≤ c.statSubregs ∧ c.statSubregs ≤ 2) ∧ 1 ≤ c.fSck ∧ (1 ≤ c.pollMax ∧ c.pollMax ≤ 2 ^ 32 - 1) ∧ 1 ≤ c.cntW := by
  simp only [configWellFormed, Bool.and_eq_true, decide_eq_true_eq, List.all_eq_true, List.mem_range, beq_iff_eq,
    one_le_wakeSleepBytes_iff]
  constructor
  · rintro ⟨⟨⟨⟨⟨⟨⟨⟨⟨chips, flags⟩, mirror⟩, cells⟩, auxs⟩, stats⟩, clock⟩, polls⟩, width⟩, -⟩
    exact ⟨chips, flags, fun i hi => (revOf_mirror_iff flags hi).mp (mirror i hi), cells, auxs, stats, clock, polls, width⟩
  · rintro ⟨chips, flags, mirror, cells, auxs, stats, clock, polls, width⟩
    exact ⟨⟨⟨⟨⟨⟨⟨⟨⟨chips, flags⟩, fun i hi => (revOf_mirror_iff flags hi).mpr (mirror i hi)⟩, cells⟩, auxs⟩, stats⟩,
      clock⟩, polls⟩, width⟩, clock⟩

/-- Settles O10: the tested conditions are those of R9, the burst length following from the clock, and past them a step
always answers a next state. -/
theorem illFormedConfigRunsNothing : Obligations.IllFormedConfigRunsNothing := by
  refine fun s => ⟨configWellFormed_iff s.cfg, fun refused => ?_, fun ill_formed => ?_⟩
  · by_contra not_ill
    obtain ⟨t, stepped, -⟩ := everyStepContinues s (Bool.not_eq_false _ ▸ not_ill)
    rw [stepped] at refused
    cases refused
  · rw [step, if_neg (by simp [ill_formed])]

/-! ### The position map -/

/-- Where a flag differs from its mirror's, two chips share a position. -/
theorem pos_mirror_eq {c : Cfg} {i : Nat} (hi : i < c.n) (hne : revOf c i ≠ revOf c (c.n - 1 - i)) :
    pos c i = pos c (c.n - 1 - i) := by
  cases hrev : revOf c i with
  | true =>
    have mirror : revOf c (c.n - 1 - i) = false := by simpa [hrev] using hne
    rw [pos_of_rev hrev, pos_of_not_rev mirror]
  | false =>
    have mirror : revOf c (c.n - 1 - i) = true := by simpa [hrev] using hne
    rw [pos_of_not_rev hrev, pos_of_rev mirror]
    omega

/-- Two chips at one position are one chip, or mirror images of each other with different flags. -/
theorem eq_or_mirror_of_pos_eq {c : Cfg} {i j : Nat} (hi : i < c.n) (hj : j < c.n) (h : pos c i = pos c j) :
    i = j ∨ (j = c.n - 1 - i ∧ revOf c i ≠ revOf c j) := by
  cases hrev_i : revOf c i <;> cases hrev_j : revOf c j <;> simp [pos, hrev_i, hrev_j] at h ⊢ <;> omega

/-- Settles O28: two chips collide exactly when they are mirror images of each other with different flags. -/
theorem positionsCollideExactlyWhenFlagsDifferFromTheirMirror :
    Obligations.PositionsCollideExactlyWhenFlagsDifferFromTheirMirror := by
  intro c
  constructor
  · rintro ⟨-, injective⟩ i hi
    by_contra hne
    have self_mirror := injective i (c.n - 1 - i) hi (by omega) (pos_mirror_eq hi hne)
    exact hne (congrArg (revOf c) self_mirror)
  · refine fun mirror => ⟨fun i hi => pos_lt hi, fun i j hi hj h => ?_⟩
    obtain same | ⟨rfl, hne⟩ := eq_or_mirror_of_pos_eq hi hj h
    · exact same
    · exact absurd (mirror i hi) hne

end Sys2Proof.Machine
end

section
/-! PROOFS. The codec setters write their field of the 48 configuration bits and nothing else (43_register_codec R220 to
R228, 10_state R47). -/

namespace Sys2Proof.Machine

/-! ### Writing bits of the transmit bytes -/

/-- From c to d the transmit bytes of register r take v in bits lo to hi - 1, and nothing else of the chip changes. -/
def TxBits (r : CfgReg) (lo hi : Nat) (v : Nat → Bool) (c d : Chip) : Prop :=
  (∃ tx, d = setCfgGroup r { cfgGroup r c with tx := tx } c) ∧
  ∀ b, b < 48 → cfgBit (cfgGroup r d).tx.toList b =
    if lo ≤ b ∧ b < hi then v b else cfgBit (cfgGroup r c).tx.toList b

theorem cfgBit_tx (r : CfgReg) (c : Chip) (b : Nat) :
    cfgBit (cfgGroup r c).tx.toList b = (cfgTx r (b / 8) c).getLsbD (b % 8) := by
  rw [cfgBit, cfgTx, Vector.getElem?_toList]

/-- The mask of a field write says which bits of the byte are written. -/
theorem txBits_packTx {k lo hi : Nat} (hk : k < 6) (hlo : 8 * k ≤ lo) (hhi : hi ≤ 8 * k + 8) {m v : Byte} {sh : Nat}
    {val : Nat → Bool} (hm : ∀ j, j < 8 → m.getLsbD j = decide (lo ≤ 8 * k + j ∧ 8 * k + j < hi))
    (hv : ∀ j, j < 8 → lo ≤ 8 * k + j → 8 * k + j < hi → (v <<< sh).getLsbD j = val (8 * k + j)) (r : CfgReg)
    (c : Chip) : TxBits r lo hi val c (packTx r k m v sh c) := by
  refine ⟨⟨_, packTx_eq r k m v sh c⟩, fun b hb => ?_⟩
  rw [cfgBit_tx, cfgBit_tx]
  by_cases byte : b / 8 = k
  · obtain ⟨j, rfl, hj⟩ : ∃ j, b = 8 * k + j ∧ j < 8 := ⟨b % 8, by omega, by omega⟩
    rw [show (8 * k + j) / 8 = k by omega, show (8 * k + j) % 8 = j by omega, cfgTx_packTx_self hk, packField_getLsbD,
      hm j hj]
    simp only [decide_eq_true_eq]
    split
    case isTrue inside => exact hv j hj inside.1 inside.2
    case isFalse => rfl
  · rw [cfgTx_packTx_of_ne (Ne.symm byte), if_neg (by omega)]

theorem TxBits.trans {r : CfgReg} {lo mid hi : Nat} {v : Nat → Bool} {c d e : Chip} (hcd : TxBits r lo mid v c d)
    (hde : TxBits r mid hi v d e) (hlo : lo ≤ mid) (hhi : mid ≤ hi) : TxBits r lo hi v c e := by
  obtain ⟨⟨tx, rfl⟩, bits_d⟩ := hcd
  obtain ⟨⟨tx', rfl⟩, bits_e⟩ := hde
  refine ⟨⟨tx', by simp⟩, fun b hb => ?_⟩
  rw [bits_e b hb, bits_d b hb]
  by_cases h_upper : mid ≤ b ∧ b < hi
  · rw [if_pos h_upper, if_pos (by omega)]
  · rw [if_neg h_upper]
    by_cases h_lower : lo ≤ b ∧ b < mid
    · rw [if_pos h_lower, if_pos (by omega)]
    · rw [if_neg h_lower, if_neg (by omega)]

/-! ### The fields -/

theorem getLsbD_bitMask {p j : Nat} (hp : p < 8) (hj : j < 8) : (bitMask p).getLsbD j = decide (j = p) := by
  interval_cases p <;> interval_cases j <;> decide

theorem getLsbD_bitByte_shiftLeft (v : Bool) {p : Nat} (hp : p < 8) : (bitByte v <<< p).getLsbD p = v := by
  interval_cases p <;> cases v <;> decide

/-- Bit p of byte k is bit 8 k + p of the 48. -/
theorem txBits_bit {k p : Nat} (hk : k < 6) (hp : p < 8) (v : Bool) (r : CfgReg) (c : Chip) :
    TxBits r (8 * k + p) (8 * k + p + 1) (fun b => v.toNat.testBit (b - (8 * k + p))) c
      (packTx r k (bitMask p) (bitByte v) p c) := by
  refine txBits_packTx hk (by omega) (by omega) (fun j hj => ?_) (fun j hj hlo hhi => ?_) r c
  · rw [getLsbD_bitMask hp hj, decide_eq_decide]
    omega
  · obtain rfl : j = p := by omega
    rw [getLsbD_bitByte_shiftLeft v hp, Nat.sub_self]
    cases v <;> rfl

/-- Bits 0..7 of the code in byte 1, bits 8..11 in the low nibble of byte 2. -/
theorem txBits_storeUv (raw : BitVec 12) (r : CfgReg) (c : Chip) :
    TxBits r 8 20 (fun b => raw.getLsbD (b - 8)) c (storeUv r raw c) := by
  have byte1 : TxBits r 8 16 (fun b => raw.getLsbD (b - 8)) c (packTx r 1 0xFF (raw.extractLsb' 0 8) 0 c) := by
    refine txBits_packTx (by decide) (by decide) (by decide) (by decide) (fun j hj _ _ => ?_) r c
    interval_cases j <;> simp
  refine byte1.trans ?_ (by decide) (by decide)
  refine txBits_packTx (by decide) (by decide) (by decide) (by decide) (fun j _ _ upper => ?_) r _
  have low_nibble : j < 4 := by omega
  interval_cases j <;> simp

/-- Bits 0..3 of the code in the high nibble of byte 2, bits 4..11 in byte 3. -/
theorem txBits_storeOv (raw : BitVec 12) (r : CfgReg) (c : Chip) :
    TxBits r 20 32 (fun b => raw.getLsbD (b - 20)) c (storeOv r raw c) := by
  have nibble2 : TxBits r 20 24 (fun b => raw.getLsbD (b - 20)) c
      (packTx r 2 0xF0 ((raw.extractLsb' 0 4).setWidth 8) 4 c) := by
    refine txBits_packTx (by decide) (by decide) (by decide) (by decide) (fun j hj lower _ => ?_) r c
    have high_nibble : 4 ≤ j := by omega
    interval_cases j <;> simp
  refine nibble2.trans ?_ (by decide) (by decide)
  refine txBits_packTx (by decide) (by decide) (by decide) (by decide) (fun j hj _ _ => ?_) r _
  interval_cases j <;> simp

/-- DCTO is the high nibble of byte 5. -/
theorem txBits_dcto (t : BitVec 4) (r : CfgReg) (c : Chip) :
    TxBits r 44 48 (fun b => t.getLsbD (b - 44)) c (packTx r 5 0xF0 (t.setWidth 8) 4 c) := by
  refine txBits_packTx (by decide) (by decide) (by decide) (by decide) (fun j hj lower _ => ?_) r c
  have high_nibble : 4 ≤ j := by omega
  interval_cases j <;> simp

/-- DCC[c] is bit 32 + c. -/
theorem dccPlace_eq {c : Nat} (hc : c ≤ 11) :
    8 * (dccPlace c).1 + (dccPlace c).2 = 32 + c ∧ (dccPlace c).1 < 6 ∧ (dccPlace c).2 < 8 := by
  unfold dccPlace
  split <;> simp <;> omega

/-! ### The requests -/

/-- An accepted setter whose change writes a field of the 48 bits. -/
theorem setterEffect_of_txBits {s : State} {chip : ChipField} (hchip : chip.toNat < s.cfg.n)
    (hlen : s.chips.length = s.cfg.n) {r : CfgReg} {lo width v : Nat} {change : Chip → Chip} (val : Nat)
    (h : ∀ c, TxBits r lo (lo + width) (fun b => v.testBit (b - lo)) c (change c)) :
    setterEffect r chip.toNat lo width v val s (finishOk val (updChip chip.toNat change s)) := by
  have others (j : Nat) (hj : j ≠ chip.toNat) : (s.chips.modify chip.toNat change)[j]? = s.chips[j]? := by
    simp [hj.symm]
  have changed : chipOf (finishOk val (updChip chip.toNat change s)) chip.toNat = change (chipOf s chip.toNat) :=
    (chipOf_updChip chip.toNat chip.toNat change s).trans (if_pos ⟨rfl, hlen ▸ hchip⟩)
  obtain ⟨tx_only, bits⟩ := h (chipOf s chip.toNat)
  exact ⟨rfl, updChip_length chip.toNat change s, others, changed ▸ tx_only, changed ▸ bits⟩

theorem chipInChain_of_lt {s : State} {chip : ChipField} (hchip : chip.toNat < s.cfg.n) :
    chipInChain s.cfg chip = true :=
  decide_eq_true hchip

/-- Settles O41: REFON is bit 2 of byte 0 and ADCOPT bit 0. -/
theorem setRefonAndSetAdcoptWriteTheirBits : Obligations.SetRefonAndSetAdcoptWriteTheirBits := by
  intro s chip v hpay hchip hlen
  have in_range := chipInChain_of_lt hchip
  have refon (r : CfgReg) := setterEffect_of_txBits hchip hlen 0 (txBits_bit (k := 0) (p := 2) (by decide) (by decide) v r)
  have adcopt (r : CfgReg) := setterEffect_of_txBits hchip hlen 0 (txBits_bit (k := 0) (p := 0) (by decide) (by decide) v r)
  exact ⟨⟨_, exec_of_wellFormed hpay in_range, refon .a⟩, ⟨_, exec_of_wellFormed hpay in_range, refon .b⟩,
    ⟨_, exec_of_wellFormed hpay in_range, adcopt .a⟩, ⟨_, exec_of_wellFormed hpay in_range, adcopt .b⟩⟩

/-- Settles O42: GPIO_PULL[g] is bit 3 + g of byte 0. -/
theorem setGpioWritesItsBit : Obligations.SetGpioWritesItsBit := by
  intro s chip g v hpay hchip hlen hg
  have in_range : (chipInChain s.cfg chip && decide (g.toNat ≤ 4)) = true := by simp [chipInChain, hchip, hg]
  have gpio (r : CfgReg) := setterEffect_of_txBits hchip hlen 0
    (txBits_bit (k := 0) (p := 3 + g.toNat) (by decide) (by omega) v r)
  rw [Nat.mul_zero, Nat.zero_add] at gpio
  exact ⟨⟨_, exec_of_wellFormed hpay in_range, gpio .a⟩, ⟨_, exec_of_wellFormed hpay in_range, gpio .b⟩⟩

/-- Settles O43: the code is below 2^12, so bytes 1 and 2 hold all of it. -/
theorem setUvWritesItsCode : Obligations.SetUvWritesItsCode := by
  intro s chip T hpay hchip hlen hT
  have in_range : (chipInChain s.cfg chip && decide (16 ≤ T.toNat)) = true := by simp [chipInChain, hchip, hT]
  have uv (r : CfgReg) := setterEffect_of_txBits (width := 12) hchip hlen (uvRaw T).toNat (txBits_storeUv (uvRaw T) r)
  rw [← uvRaw_toNat T]
  exact ⟨⟨_, exec_of_wellFormed hpay in_range, uv .a⟩, ⟨_, exec_of_wellFormed hpay in_range, uv .b⟩⟩

/-- Settles O44: the code is below 2^12, so bytes 2 and 3 hold all of it. -/
theorem setOvWritesItsCode : Obligations.SetOvWritesItsCode := by
  intro s chip T hpay hchip hlen
  have in_range := chipInChain_of_lt hchip
  have ov (r : CfgReg) := setterEffect_of_txBits (width := 12) hchip hlen (ovRaw T).toNat (txBits_storeOv (ovRaw T) r)
  rw [← ovRaw_toNat T]
  exact ⟨⟨_, exec_of_wellFormed hpay in_range, ov .a⟩, ⟨_, exec_of_wellFormed hpay in_range, ov .b⟩⟩

/-- Settles O45: DCC[c] is bit 32 + c, in byte 4 up to c = 7 and in byte 5 from c = 8. -/
theorem setDccWritesItsBit : Obligations.SetDccWritesItsBit := by
  intro s chip c v hpay hchip hlen hc
  have in_range : (chipInChain s.cfg chip && decide (c.toNat ≤ 11)) = true := by simp [chipInChain, hchip, hc]
  obtain ⟨place, byte_lt, bit_lt⟩ := dccPlace_eq hc
  have dcc (r : CfgReg) := setterEffect_of_txBits hchip hlen 0 (txBits_bit byte_lt bit_lt v r)
  rw [place] at dcc
  exact ⟨⟨_, exec_of_wellFormed hpay in_range, dcc .a⟩, ⟨_, exec_of_wellFormed hpay in_range, dcc .b⟩⟩

/-- Settles O46: the nibble of DCTO is bits 44..47. -/
theorem setDctoWritesItsNibble : Obligations.SetDctoWritesItsNibble := by
  intro s chip t hpay hchip hlen
  have in_range := chipInChain_of_lt hchip
  have dcto (r : CfgReg) := setterEffect_of_txBits (width := 4) hchip hlen 0 (txBits_dcto t r)
  exact ⟨⟨_, exec_of_wellFormed hpay in_range, dcto .a⟩, ⟨_, exec_of_wellFormed hpay in_range, dcto .b⟩⟩

end Sys2Proof.Machine
end

section
/-! PROOFS. GET_CFG reads its field of the 48 configuration bits (43_register_codec R229), and the bytes of the
communication group (43_register_codec R233, R234). -/

namespace Sys2Proof.Machine

/-! ### Fields of the configuration bytes as numbers -/

/-- raw is the number in the bits lo to lo + width - 1 of the bytes. -/
def HoldsField (bytes : List Byte) (lo width raw : Nat) : Prop :=
  raw < 2 ^ width ∧ ∀ b, b < width → raw.testBit b = cfgBit bytes (lo + b)

theorem holdsField_bit (bytes : List Byte) (p : Nat) : HoldsField bytes p 1 (bitNat (cfgBit bytes p)) := by
  refine ⟨Nat.lt_succ_of_le (bitNat_le_one _), fun b hb => ?_⟩
  obtain rfl : b = 0 := by omega
  rw [Nat.add_zero]
  cases cfgBit bytes p <;> rfl

theorem holdsField_toNat {bytes : List Byte} {lo width : Nat} {raw : BitVec width}
    (h : ∀ b, b < width → raw.getLsbD b = cfgBit bytes (lo + b)) : HoldsField bytes lo width raw.toNat :=
  ⟨raw.isLt, h⟩

theorem holdsField_uvOf (bytes : List Byte) : HoldsField bytes 8 12 (uvOf bytes).toNat := by
  refine holdsField_toNat fun b hb => ?_
  interval_cases b <;> simp [uvOf, cfgBit]

theorem holdsField_ovOf (bytes : List Byte) : HoldsField bytes 20 12 (ovOf bytes).toNat := by
  refine holdsField_toNat fun b hb => ?_
  interval_cases b <;> simp [ovOf, cfgBit]

theorem holdsField_dcto (bytes : List Byte) :
    HoldsField bytes 44 4 (((bytes[5]?.getD 0) : Byte).extractLsb' 4 4).toNat := by
  refine holdsField_toNat fun b hb => ?_
  interval_cases b <;> simp [cfgBit]

theorem holdsField_byte (bytes : List Byte) (x : Nat) : HoldsField bytes (8 * x) 8 ((bytes[x]?.getD 0) : Byte).toNat := by
  refine holdsField_toNat fun b hb => ?_
  rw [cfgBit, show (8 * x + b) / 8 = x by omega, show (8 * x + b) % 8 = b by omega]

/-- DCC[x] is in byte 4 up to x = 7 and in byte 5 from x = 8. -/
theorem cfgBit_dcc (bytes : List Byte) {x : Nat} (hx : x ≤ 11) : cfgBit bytes (32 + x) =
    if x ≤ 7 then ((bytes[4]?.getD 0) : Byte).getLsbD x else ((bytes[5]?.getD 0) : Byte).getLsbD (x - 8) := by
  unfold cfgBit
  split
  · rw [show (32 + x) / 8 = 4 by omega, show (32 + x) % 8 = x by omega]
  · rw [show (32 + x) / 8 = 5 by omega, show (32 + x) % 8 = x - 8 by omega]

/-- The field GET_CFG answers, in place and as a number (30_encoding R107). -/
theorem cfgFieldValue_spec (bytes : List Byte) {f x : Nat} {src : Copy} (hx : x ≤ cfgFieldMaxIndex f src) :
    ∃ raw, cfgFieldValue bytes f x = fieldAnswer f raw ∧
      HoldsField bytes (fieldPlace f x).1 (fieldPlace f x).2 raw := by
  match f with
  | 0 => exact ⟨_, rfl, holdsField_bit bytes 0⟩
  | 1 => exact ⟨_, rfl, holdsField_bit bytes 2⟩
  | 2 =>
    have gpio_bit : (3 + x) / 8 = 0 ∧ (3 + x) % 8 = 3 + x := by
      have x_le : x ≤ 4 := hx
      omega
    refine ⟨_, ?_, holdsField_bit bytes (3 + x)⟩
    rw [cfgBit, gpio_bit.1, gpio_bit.2]
    rfl
  | 3 => exact ⟨_, rfl, holdsField_uvOf bytes⟩
  | 4 => exact ⟨_, rfl, holdsField_ovOf bytes⟩
  | 5 => exact ⟨_, rfl, holdsField_uvOf bytes⟩
  | 6 => exact ⟨_, rfl, holdsField_ovOf bytes⟩
  | 7 =>
    refine ⟨_, ?_, holdsField_bit bytes (32 + x)⟩
    rw [cfgBit_dcc bytes hx, apply_ite bitNat]
    rfl
  | 8 => exact ⟨_, rfl, holdsField_dcto bytes⟩
  | n + 9 => exact ⟨_, rfl, holdsField_byte bytes x⟩

/-- Settles O47: an accepted GET_CFG has its index in the range of its field. -/
theorem getCfgAnswersTheField : Obligations.GetCfgAnswersTheField := by
  intro s chip f src x hpay hwf r
  have x_le : x.toNat ≤ cfgFieldMaxIndex f.toNat src := by
    have in_range : cfgIndexInRange f.toNat x.toNat src = true := (Bool.and_eq_true_iff.mp hwf).2
    simpa [cfgIndexInRange_eq] using in_range
  obtain ⟨raw, value, field⟩ := cfgFieldValue_spec (cfgCopy r src (chipOf s chip.toNat)) x_le
  refine ⟨raw, ?_, field.1, fun b hb => (field.2 b hb).trans (by cases src <;> rfl)⟩
  rw [← value]
  cases r with
  | a => exact exec_of_wellFormed hpay hwf
  | b => exact exec_of_wellFormed hpay hwf

/-! ### The communication bytes -/

theorem commByte_tx {x : Nat} (hx : x < 6) (c : Chip) : c.commTx[x]? = some (commByte c .tx x) := by
  simp [commByte, hx]

theorem commByte_rx {x : Nat} (hx : x < 8) (c : Chip) : c.commRx[x]? = some (commByte c .rx x) := by
  simp [commByte, hx]

/-- Settles O48: SET_COMM writes one byte of commTx, and GET_COMM reads one of the copy named. -/
theorem commBytesAreStoredAndAnswered : Obligations.CommBytesAreStoredAndAnswered := by
  intro s chip x b hpay hchip hlen
  have in_chain := chipInChain_of_lt hchip
  have x_lt : x.toNat < 8 := x.isLt
  refine ⟨fun hx => ?_, fun hx => ?_, ?_⟩
  · have in_range : (chipInChain s.cfg chip && decide (x.toNat ≤ 5)) = true := by simp [in_chain, hx]
    have changed := (chipOf_updChip chip.toNat chip.toNat (fun c => { c with commTx := c.commTx.setIfInBounds x.toNat b })
      s).trans (if_pos ⟨rfl, hlen ▸ hchip⟩)
    refine ⟨_, exec_of_wellFormed hpay in_range, rfl, updChip_length .., fun j hj => ?_, fun f hf => ?_, fun y hy => ?_⟩
    · simp [effectOf, updChip, hj.symm]
    · exact (congrArg (agreeOn f · _) changed).mpr (agreeOn_setCommTx hf _ _)
    · have other := congrArg (fun c : Chip => c.commTx[y]?) changed
      refine other.trans ?_
      rw [Vector.getElem?_setIfInBounds]
      by_cases hxy : y = x.toNat
      · simp [hxy, show x.toNat < 6 by omega]
      · rw [if_neg (Ne.symm hxy), if_neg hxy]
  · refine ⟨_, commByte_tx (by omega) _, exec_of_wellFormed hpay ?_⟩
    simp [wellFormed_getComm, in_chain, hx]
  · refine ⟨_, commByte_rx x_lt _, exec_of_wellFormed hpay ?_⟩
    simp [wellFormed_getComm, in_chain]

end Sys2Proof.Machine
end

section
/-! PROOFS. The requests with one frame or none: PEC_CALC (40_pec15 R151), the transmitting requests (41_frame_builder
R165 to R167), the getters and RESET_COUNTERS (44_measurement_parser R280 to R283), the conversion starts (45_conversion
R300 to R307), and the decay of the link between requests (42_link_sequencer R201). -/

namespace Sys2Proof.Machine

theorem rejection_pecCalc (c : Cfg) (payload : List Byte) :
    rejection c payload .pecCalc = if payload.length ≤ c.pecMaxLen then none else some 4 := by
  by_cases short : payload.length ≤ c.pecMaxLen <;> simp [rejection, chipField, wellFormed, payloadAllowed, short]

/-- Settles O26: PEC_CALC has a payload and no other check. -/
theorem pecCalcAnswersThePec : Obligations.PecCalcAnswersThePec := fun _ =>
  ⟨fun short => exec_of_acceptance ((rejection_pecCalc ..).trans (if_pos short)),
    fun long => exec_of_rejection ((rejection_pecCalc ..).trans (if_neg (Nat.not_le.mpr long)))⟩

/-- Settles O31: the three requests are one transmit event and a result. -/
theorem transmittingRequestsSendTheirFrame : Obligations.TransmittingRequestsSendTheirFrame := fun _ hpay =>
  ⟨fun _ => exec_of_wellFormed hpay rfl, exec_of_wellFormed hpay rfl, exec_of_wellFormed hpay rfl,
    exec_of_wellFormed hpay rfl⟩

/-! ### Getters -/

theorem bitNat_eq_toNat (v : Bool) : bitNat v = v.toNat := by
  cases v <;> rfl

/-- The value a getter reads in range is the element itself. -/
theorem vector_getElem?_getD {α : Type} {n i : Nat} (v : Vector α n) (d : α) (hi : i < n) :
    v[i]? = some (v[i]?.getD d) := by
  simp [hi]

/-- The flag of an id 2..13 is an element of one of the three flag vectors. -/
theorem pecFlag_measurement (c : Chip) {id : Nat} (lower : 2 ≤ id) (upper : id ≤ 13) :
    (if id ≤ 7 then c.cellPec[id - 2]? else if id ≤ 11 then c.auxPec[id - 8]? else c.statPec[id - 12]?) =
      some (pecFlag c id) := by
  unfold pecFlag
  rw [if_neg (by omega : id ≠ 0), if_neg (by omega : id ≠ 1)]
  by_cases cell : id ≤ 7
  · rw [if_pos cell, if_pos cell]
    exact vector_getElem?_getD _ _ (by omega)
  · rw [if_neg cell, if_neg cell]
    by_cases aux : id ≤ 11
    · rw [if_pos aux, if_pos aux]
      exact vector_getElem?_getD _ _ (by omega)
    · rw [if_neg aux, if_neg aux]
      exact vector_getElem?_getD _ _ (by omega)

/-- Settles O54: every operand in range names an element of its vector. -/
theorem gettersAnswerTheirField : Obligations.GettersAnswerTheirField := by
  intro s chip hpay hchip
  have in_chain := chipInChain_of_lt hchip
  have ranges {P : Prop} [Decidable P] (h : P) : (chipInChain s.cfg chip && decide P) = true := by simp [in_chain, h]
  refine ⟨fun slot h => ⟨_, vector_getElem?_getD _ _ (by omega), exec_of_wellFormed hpay (ranges h)⟩,
    fun slot h => ⟨_, vector_getElem?_getD _ _ (by omega), exec_of_wellFormed hpay (ranges h)⟩,
    fun f h => ⟨_, vector_getElem?_getD _ 0 (by omega), ?_⟩, fun f lower h => ⟨_, vector_getElem?_getD _ 0 (by omega), ?_⟩,
    ?_, ?_, ?_, ?_, fun id lower upper => ⟨_, pecFlag_measurement _ lower upper, ?_⟩,
    fun id h => ⟨_, vector_getElem?_getD _ 0 (by omega), exec_of_wellFormed hpay (ranges h)⟩⟩
  · have code_field : statFieldValue (chipOf s chip.toNat) f.toNat =
        ((chipOf s chip.toNat).statCodes[f.toNat]?.getD 0).toNat := if_pos h
    rw [← code_field]
    exact exec_of_wellFormed hpay (ranges (by omega))
  · have flag_field : statFieldValue (chipOf s chip.toNat) f.toNat =
        ((chipOf s chip.toNat).statFlags[f.toNat - 4]?.getD 0).toNat := by
      rw [statFieldValue, if_neg (by omega), if_pos h]
    rw [← flag_field]
    exact exec_of_wellFormed hpay (ranges (by omega))
  · rw [← bitNat_eq_toNat]
    exact exec_of_wellFormed hpay (ranges (by decide))
  · rw [← bitNat_eq_toNat]
    exact exec_of_wellFormed hpay (ranges (by decide))
  · rw [← bitNat_eq_toNat]
    exact exec_of_wellFormed hpay (ranges (by decide))
  · rw [← bitNat_eq_toNat]
    exact exec_of_wellFormed hpay (ranges (by decide))
  · rw [← bitNat_eq_toNat]
    exact exec_of_wellFormed hpay (ranges upper)

/-! ### Counters, starts and the gap -/

theorem chipOf_map_zeroCounters (s : State) (i : Nat) :
    chipOf { s with chips := s.chips.map zeroCounters } i = zeroCounters (chipOf s i) := by
  cases h : s.chips[i]? with
  | none =>
    have zero_fixed : Chip.zero = zeroCounters Chip.zero := rfl
    simpa [chipOf, h] using zero_fixed
  | some c => simp [chipOf, h]

/-- Settles O55: the counters of a chip of the chain are cleared, those of no chip are 0 already. -/
theorem resetCountersZeroesOnlyCounters : Obligations.ResetCountersZeroesOnlyCounters := by
  intro s hpay
  refine ⟨_, exec_of_wellFormed hpay rfl, rfl, List.length_map _, fun chip c => ?_, fun f hf chip => ?_⟩
  · have cleared := congrArg (fun d : Chip => d.cnt[c]?.getD 0) (chipOf_map_zeroCounters s chip)
    refine Eq.trans cleared ?_
    by_cases hc : c < 14
    · simp [zeroCounters, hc]
    · simp [zeroCounters, hc]
  · exact (congrArg (agreeOn f · _) (chipOf_map_zeroCounters s chip)).mpr (agreeOn_zeroCounters hf _)

/-- The default tables hold the bitwise fold of the operands (45_conversion R303). -/
theorem defaultFold_adcv : ∀ (md : BitVec 2) (dcp : Bool) (ch : BitVec 3), ch.toNat ≤ 6 →
    (defaultCfg.foldAdcv[(md.toNat * 2 + dcp.toNat) * 7 + ch.toNat]?.getD 0).toNat =
      0x260 ||| md.toNat <<< 7 ||| dcp.toNat <<< 4 ||| ch.toNat := by
  decide

theorem defaultFold_adax : ∀ (md : BitVec 2) (ch : BitVec 3), ch.toNat ≤ 6 →
    (defaultCfg.foldAdax[md.toNat * 7 + ch.toNat]?.getD 0).toNat = 0x460 ||| md.toNat <<< 7 ||| ch.toNat := by
  decide

theorem defaultFold_adstat : ∀ (md : BitVec 2) (ch : BitVec 3), ch.toNat ≤ 4 →
    (defaultCfg.foldAdstat[md.toNat * 5 + ch.toNat]?.getD 0).toNat = 0x468 ||| md.toNat <<< 7 ||| ch.toNat := by
  decide

/-- Settles O58: the operands in range name an entry of their fold table. -/
theorem startsTransmitTheFoldedCode : Obligations.StartsTransmitTheFoldedCode := by
  intro s md dcp ch hpay
  have md_lt : md.toNat < 4 := md.isLt
  have dcp_lt : dcp.toNat < 2 := dcp.toNat_lt
  refine ⟨fun h => ⟨_, vector_getElem?_getD _ 0 (by omega), exec_of_wellFormed hpay (decide_eq_true h), fun hcfg => hcfg ▸ defaultFold_adcv md dcp ch h⟩,
    fun h => ⟨_, vector_getElem?_getD _ 0 (by omega), exec_of_wellFormed hpay (decide_eq_true h), fun hcfg => hcfg ▸ defaultFold_adax md ch h⟩,
    fun h => ⟨_, vector_getElem?_getD _ 0 (by omega), exec_of_wellFormed hpay (decide_eq_true h), fun hcfg => hcfg ▸ defaultFold_adstat md ch h⟩⟩

/-- ACTIVE falls by 0, 1 or 2 steps, IDLE by 0 or 1, and SLEEP stays. -/
theorem lowerLink_reaches (l l' : Link) : (∃ steps, lowerLink l steps = l') ↔
    (l = .active ∨ (l = .idle ∧ l' ≠ .active) ∨ (l = .sleep ∧ l' = .sleep)) := by
  constructor
  · rintro ⟨steps, rfl⟩
    cases l with
    | active => exact .inl rfl
    | idle => exact .inr (.inl ⟨rfl, by by_cases stays : steps = 0 <;> simp [lowerLink, stays]⟩)
    | sleep => exact .inr (.inr ⟨rfl, rfl⟩)
  · rintro (rfl | ⟨rfl, not_active⟩ | ⟨rfl, rfl⟩)
    · cases l' with
      | active => exact ⟨0, rfl⟩
      | idle => exact ⟨1, rfl⟩
      | sleep => exact ⟨2, rfl⟩
    · cases l' with
      | active => exact absurd rfl not_active
      | idle => exact ⟨0, rfl⟩
      | sleep => exact ⟨1, rfl⟩
    · exact ⟨0, rfl⟩

/-- Settles O40: 0, 1 and 2 steps are all the decays there are. -/
theorem gapLowersTheLinkByAnyAmount : Obligations.GapLowersTheLinkByAnyAmount := by
  have no_step (l : Link) : lowerLink l 0 = l := by cases l <;> rfl
  refine ⟨lowerLink_reaches, no_step, fun s short => ?_⟩
  rw [afterGap, short, no_step]

end Sys2Proof.Machine
end

section
/-! PROOFS. The loops of the wakes and of POLL as events (42_link_sequencer R205 to R207, 45_conversion R315). -/

namespace Sys2Proof.Machine

/-! ### The wakes -/

/-- Settles O36: the loop is N fills, and the link follows R204. -/
theorem wakeIdleFillsOncePerChip : Obligations.WakeIdleFillsOncePerChip := by
  intro s hpay
  refine ⟨_, ?_, rfl, fun e he => ?_⟩
  · rw [exec_of_wellFormed hpay rfl, effectOf, repeatStep_idleFill]
    cases s.link <;> rfl
  · obtain ⟨j, -, rfl⟩ := List.mem_map.mp he
    rfl

/-- Settles O37: the loop is N bursts, each with its pause, and R204 makes every link ACTIVE. -/
theorem wakeSleepBurstsOncePerChip : Obligations.WakeSleepBurstsOncePerChip := by
  intro s hpay
  refine ⟨_, ?_, rfl, ?_⟩
  · have woken (l : Link) : wakeSleepLink l = .active := by cases l <;> rfl
    rw [exec_of_wellFormed hpay rfl, effectOf, repeatStep_sleepBurst, woken]
    rfl
  · rw [List.map_flatMap]
    rfl

/-! ### The phase machine -/

/-- The phases IDLE_FILL c to IDLE_FILL (N - 1) are the passes left of the loop, and the last ends the wake. -/
theorem repeatStep_seqTick_idleFill (m : Nat) : ∀ (c : Nat) (s : State), s.cfg.n = c + (m + 1) →
    repeatStep seqTick (m + 1) { s with seq := .idleFill c } =
      { repeatStep idleFillOnce (m + 1) s with
        seq := .ready
        link := wakeIdleLink (repeatStep idleFillOnce (m + 1) s).link } := by
  induction m with
  | zero =>
    intro c s hn
    have last : ¬ c + 1 < s.cfg.n := by omega
    exact if_neg last
  | succ m ih =>
    intro c s hn
    have more : c + 1 < s.cfg.n := by omega
    have tick : seqTick { s with seq := .idleFill c } = { busFill 1 s with seq := .idleFill (c + 1) } := if_pos more
    rw [repeatStep, tick]
    exact ih (c + 1) (busFill 1 s) (by rw [busFill_cfg]; omega)

/-- The same for the bursts and their pauses, two phases each. -/
theorem repeatStep_seqTick_sleepBurst (m : Nat) : ∀ (c : Nat) (s : State), s.cfg.n = c + (m + 1) →
    repeatStep seqTick (2 * (m + 1)) { s with seq := .sleepBurst c } =
      { repeatStep sleepBurstOnce (m + 1) s with
        seq := .ready
        link := wakeSleepLink (repeatStep sleepBurstOnce (m + 1) s).link } := by
  induction m with
  | zero =>
    intro c s hn
    have last : ¬ c + 1 < s.cfg.n := by omega
    exact if_neg last
  | succ m ih =>
    intro c s hn
    have more : c + 1 < s.cfg.n := by omega
    have ticks : seqTick (seqTick { s with seq := .sleepBurst c }) =
      { sleepBurstOnce s with seq := .sleepBurst (c + 1) } := if_pos more
    rw [show 2 * (m + 1 + 1) = 2 * (m + 1) + 1 + 1 by omega, repeatStep, repeatStep, ticks]
    exact ih (c + 1) (sleepBurstOnce s) (by rw [sleepBurstOnce, busDelay_cfg, busFill_cfg]; omega)

/-- Settles O38: the loops leave the phase alone, so READY at the end is the phase of the request rule. -/
theorem phaseMachineRefinesTheWakes : Obligations.PhaseMachineRefinesTheWakes := by
  intro s hpay ready hn
  obtain ⟨m, n_eq⟩ : ∃ m, s.cfg.n = m + 1 := ⟨s.cfg.n - 1, by omega⟩
  have from_first : s.cfg.n = 0 + (m + 1) := by omega
  constructor
  · rw [exec_of_wellFormed hpay rfl, effectOf, n_eq, seqStartIdle, repeatStep_seqTick_idleFill m 0 s from_first,
      repeatStep_idleFill, ← ready]
    rfl
  · rw [exec_of_wellFormed hpay rfl, effectOf, n_eq, seqStartSleep, repeatStep_seqTick_sleepBurst m 0 s from_first,
      repeatStep_sleepBurst, ← ready]
    rfl

/-! ### POLL -/

/-- Settles O59: fill k is the one the loop stops at. -/
theorem pollEndsAtTheFirstNonZeroByte : Obligations.PollEndsAtTheFirstNonZeroByte := by
  intro s k hpay hk hmax zeros nonzero
  obtain ⟨m, rfl⟩ : ∃ m, k = m + 1 := ⟨k - 1, by omega⟩
  rw [exec_poll_of_no_payload hpay, pollFrom_done m _ 1 _ hmax
    (fun j hj => by rw [fillNo_busTx, fillNo_one]; exact zeros j (by omega))
    (by rw [fillNo_busTx, fillNo_one]; exact nonzero), Nat.add_comm 1 m]
  rfl

end Sys2Proof.Machine
end

section
/-! PROOFS. One completed read exchange in the words of the statements: the block of each chip, the mismatching chips,
the frame and the counters (41_frame_builder R166, R170, R171, 44_measurement_parser R261 to R270). -/

namespace Sys2Proof.Machine

/-! ### The group of a chip is its block of the response -/

section
variable {cfg : Cfg} {response : List Byte} {i : Nat} (hlen : response.length = 8 * cfg.n) (hi : i < cfg.n)
include hlen hi

theorem groupBytes_groupAt : (groupBytes (groupAt cfg response i)).toList = blockOf cfg response i := by
  have pos_lt_n : pos cfg i < cfg.n := pos_lt hi
  refine List.ext_getElem (by simp [blockOf]; omega) fun m hm _ => ?_
  have m_lt : m < 8 := by simpa using hm
  have in_response : 8 * pos cfg i + m < response.length := by omega
  have block_byte : (blockOf cfg response i)[m]? = some response[8 * pos cfg i + m] := by
    rw [blockOf, List.getElem?_take_of_lt m_lt, List.getElem?_drop, List.getElem?_eq_getElem in_response]
  have group_byte : (groupBytes (groupAt cfg response i)).toList[m]? = some (response[8 * pos cfg i + m]?.getD 0) := by
    interval_cases m <;> simp [groupAt]
  apply Option.some.inj
  rw [← List.getElem?_eq_getElem, ← List.getElem?_eq_getElem, group_byte, block_byte,
    List.getElem?_eq_getElem in_response, Option.getD_some]

theorem blockOf_eq : blockOf cfg response i =
    (groupAt cfg response i).data.toList ++ [(groupAt cfg response i).h, (groupAt cfg response i).l] := by
  rw [← groupBytes_groupAt hlen hi, groupBytes_toList]

theorem blockGood_blockOf : blockGood (blockOf cfg response i) = groupOk (groupAt cfg response i) := by
  rw [blockOf_eq hlen hi, blockGood, groupOk, List.take_left' (by simp), List.getElem?_append_right (by simp),
    List.getElem?_append_right (by simp)]
  simp

theorem byteAt_blockOf {m : Nat} (hm : m < 6) :
    byteAt (blockOf cfg response i) m = byteAt (groupAt cfg response i).data.toList m := by
  rw [blockOf_eq hlen hi, byteAt, byteAt, List.getElem?_append_left (by simpa using hm)]

theorem groupCode_groupAt {m : Nat} (hm : m < 3) : groupCode (groupAt cfg response i) m =
    codeOf (byteAt (blockOf cfg response i) (2 * m)) (byteAt (blockOf cfg response i) (2 * m + 1)) := by
  rw [groupCode_eq_codeOf, byteAt_blockOf hlen hi (by omega), byteAt_blockOf hlen hi (by omega)]

end

/-- Only the six data bytes are decoded. -/
theorem holdsDecoded_congr {kind : Kind} {k : Nat} {d e : List Byte} {c : Chip}
    (h : ∀ m, m < 6 → byteAt d m = byteAt e m) : holdsDecoded kind k d c ↔ holdsDecoded kind k e c := by
  have code_eq (m : Nat) (hm : m < 3) :
      codeOf (byteAt d (2 * m)) (byteAt d (2 * m + 1)) = codeOf (byteAt e (2 * m)) (byteAt e (2 * m + 1)) := by
    rw [h _ (by omega), h _ (by omega)]
  unfold holdsDecoded
  cases kind with
  | cell | aux => exact forall₂_congr fun m hm => by rw [code_eq m hm]
  | stat =>
    by_cases sub_a : k = 0
    · simp only [sub_a, if_true]
      exact forall₂_congr fun m hm => by rw [code_eq m hm]
    · simp only [sub_a, if_false]
      rw [h 0 (by decide), h 1 (by decide), h 2 (by decide), h 3 (by decide), h 4 (by decide), h 5 (by decide)]

theorem mismatches_eq_badChips {cfg : Cfg} {response : List Byte} (hlen : response.length = 8 * cfg.n) (id : Nat) :
    mismatches cfg response id = (badChips cfg response).map fun i => (i, id) := by
  have bad_iff (i : Nat) (hi : i ∈ List.range cfg.n) :
      (!groupOk (groupAt cfg response i)) = !blockGood (blockOf cfg response i) := by
    rw [blockGood_blockOf hlen (List.mem_range.mp hi)]
  rw [mismatches, List.filter_congr bad_iff, badChips]

theorem readResult_mismatches {cfg : Cfg} {response : List Byte} (hlen : response.length = 8 * cfg.n) (id : Nat) :
    readResult (mismatches cfg response id) = exchangeResult cfg response id := by
  rw [mismatches_eq_badChips hlen, readResult, exchangeResult]
  cases badChips cfg response <;> simp

/-! ### One exchange -/

/-- What a read exchange with a response of the right length does. -/
def completedRead (c : CmdCode) (id : Nat) (store : Group → Chip → Chip) (s : State) : State :=
  finish (readResult (mismatches s.cfg (responseOf s) id)) (storeAll store (responseOf s) (exchange c s))

section
variable {c : CmdCode} {k id : Nat} {store : Group → Chip → Chip} {s : State}

theorem readOne_of_length (hlen : (responseOf s).length = 8 * s.cfg.n) :
    readOne c k id store s = completedRead c id store s :=
  readOne_of_shapeOk c k id store (beq_iff_eq.mpr hlen)

theorem exchangeFrame_completedRead (hlen : (responseOf s).length = 8 * s.cfg.n) :
    exchangeFrame c id s (completedRead c id store s) := by
  refine ⟨?_, storeAll_length store (responseOf s) (exchange c s)⟩
  rw [← readResult_mismatches hlen]
  cases hlink : s.link <;> simp [completedRead, finish, storeAll, exchange, busTxRx, linkAfterBus, hlink]

theorem chipOf_completedRead {i : Nat} (hi : i < s.chips.length) :
    chipOf (completedRead c id store s) i = store (groupAt s.cfg (responseOf s) i) (chipOf s i) :=
  (chipOf_storeAll store (responseOf s) (exchange c s) i).trans (if_pos hi)

/-- A store that accounts its mismatches under `id` counts as the statements say. -/
theorem countersAfter_completedRead {i cid : Nat} (hlen : (responseOf s).length = 8 * s.cfg.n) (hi : i < s.cfg.n)
    (hchips : s.chips.length = s.cfg.n)
    (hstore : ∀ g d j, (store g d).cnt[j]?.getD 0 =
      if groupOk g = false ∧ (j = 0 ∨ j = counterId cid) then satInc s.cfg.cntW (d.cnt[j]?.getD 0)
      else d.cnt[j]?.getD 0) :
    countersAfter s (completedRead c id store s) i cid (blockGood (blockOf s.cfg (responseOf s) i)) := by
  intro j _
  rw [counterAt, chipOf_completedRead (hchips ▸ hi), hstore, blockGood_blockOf hlen hi]
  rfl

end

/-! ### The reads of the configuration and communication groups -/

theorem exec_readCfg {r : CfgReg} {s : State} (hpay : s.payload = []) (hlen : (responseOf s).length = 8 * s.cfg.n) :
    exec (.readCfg r) s =
      .next (completedRead (code s (readCfgName r)) (cfgRegId r) (storeCfgGroup s.cfg.cntW r) s) := by
  rw [exec_of_wellFormed hpay rfl, effectOf, readOne_of_length hlen]

theorem cfgGroup_storeCfgGroup (w : Nat) (r : CfgReg) (g : Group) (c : Chip) :
    cfgGroup r (storeCfgGroup w r g c) = { cfgGroup r c with rx := groupBytes g, pecErr := !groupOk g } := by
  rw [storeCfgGroup_eq]
  cases r <;> rfl

/-- READ_CFG.B counts under its id 1 and READ_CFG.A, whose id is 0, under 1 too. -/
theorem countersAfter_readCfg {r : CfgReg} {s : State} {c : CmdCode} {id i : Nat}
    (hlen : (responseOf s).length = 8 * s.cfg.n) (hi : i < s.cfg.n) (hchips : s.chips.length = s.cfg.n) :
    countersAfter s (completedRead c id (storeCfgGroup s.cfg.cntW r) s) i 1
      (blockGood (blockOf s.cfg (responseOf s) i)) :=
  countersAfter_completedRead hlen hi hchips (storeCfgGroup_cnt s.cfg.cntW r)

/-- Settles O32: every chip stores the group that is its block. -/
theorem readCfgStoresEveryBlock : Obligations.ReadCfgStoresEveryBlock := by
  intro r s hpay hchips hlen
  refine ⟨_, exec_readCfg hpay hlen, ?_, fun i hi _ => ?_⟩
  · cases r <;> exact exchangeFrame_completedRead hlen
  · rw [chipOf_completedRead (hchips ▸ hi), cfgGroup_storeCfgGroup, groupBytes_groupAt hlen hi, blockGood_blockOf hlen hi]
    refine ⟨rfl, rfl, ?_, fun f hrx hflag hcnt => agreeOn_storeCfgGroup hrx hflag hcnt _ _ _⟩
    rw [← blockGood_blockOf hlen hi]
    exact countersAfter_readCfg hlen hi hchips

/-- Settles O33: every chip stores the group that is its block, and no flag or counter. -/
theorem readCommStoresEveryBlock : Obligations.ReadCommStoresEveryBlock := by
  intro s hpay hchips hlen
  have ran : exec .readComm s = .next (completedRead s.cfg.cmdCode.rdcomm 14 storeCommGroup s) := by
    rw [exec_of_wellFormed hpay rfl, effectOf, readOne_of_length hlen]
    rfl
  refine ⟨_, ran, exchangeFrame_completedRead hlen, fun i hi _ => ?_⟩
  rw [chipOf_completedRead (hchips ▸ hi)]
  exact ⟨groupBytes_groupAt hlen hi, fun f hf => agreeOn_storeCommGroup hf _ _⟩

/-! ### The reads of one measurement sub-register -/

theorem regId_le {kind : Kind} {k : Nat} (hk : k < maxSubregs kind) : regId kind k ≤ 13 := by
  cases kind with
  | cell | aux | stat =>
    simp only [maxSubregs] at hk
    simp only [regId]
    omega

section
variable {kind : Kind} {k : BitVec 3} {s : State} (hpay : s.payload = []) (hk : k.toNat < subregs s.cfg kind)

include hpay hk in
theorem exec_readOneOf_eq_readOne : exec (readOneOf kind k) s = .next (readOne (subregCode s.cfg.cmdCode kind k.toNat)
    k.toNat (regId kind k.toNat) (storeMeasurement s.cfg.cntW kind k.toNat) s) := by
  rw [exec_readOneOf, readSubreg, guarded_of_pass _ _ (by simp [fieldCheck, payloadCheck, hpay, Nat.not_le.mpr hk]),
    code_readName]

variable (hlen : (responseOf s).length = 8 * s.cfg.n)
include hlen

include hpay hk in
theorem exec_readOneOf_completed : exec (readOneOf kind k) s =
    .next (completedRead (subregCode s.cfg.cmdCode kind k.toNat) (regId kind k.toNat)
      (storeMeasurement s.cfg.cntW kind k.toNat) s) := by
  rw [exec_readOneOf_eq_readOne hpay hk, readOne_of_length hlen]

include hk in
theorem countersAfter_readOneOf (wf : configWellFormed s.cfg = true) {c : CmdCode} {id i : Nat} (hi : i < s.cfg.n)
    (hchips : s.chips.length = s.cfg.n) :
    countersAfter s (completedRead c id (storeMeasurement s.cfg.cntW kind k.toNat) s) i (regId kind k.toNat)
      (blockGood (blockOf s.cfg (responseOf s) i)) := by
  have k_lt : k.toNat < maxSubregs kind := hk.trans_le (subregs_le_maxSubregs wf kind)
  have id_le := regId_le k_lt
  exact countersAfter_completedRead hlen hi hchips fun g d j => storeMeasurement_cnt _ kind _ g d j id_le

end

theorem cellPec_storeMeasurement (w k : Nat) (g : Group) (c : Chip) :
    (storeMeasurement w .cell k g c).cellPec = c.cellPec.setIfInBounds k (!groupOk g) := by
  rw [storeMeasurement_eq]
  rfl

theorem auxPec_storeMeasurement (w k : Nat) (g : Group) (c : Chip) :
    (storeMeasurement w .aux k g c).auxPec = c.auxPec.setIfInBounds k (!groupOk g) := by
  rw [storeMeasurement_eq]
  rfl

theorem statPec_storeMeasurement (w k : Nat) (g : Group) (c : Chip) :
    (storeMeasurement w .stat k g c).statPec = c.statPec.setIfInBounds k (!groupOk g) := by
  have decode_keeps : (decodeGroup .stat k g c).statPec = c.statPec := by
    rw [decodeGroup]
    split <;> rfl
  rw [storeMeasurement_eq, ← decode_keeps]
  rfl

/-- One flag of a vector is written. -/
theorem getElem?_setFlag {n k q : Nat} (flags : Vector Bool n) (v : Bool) (hq : q < n) :
    (flags.setIfInBounds k v)[q]? = if q = k then some v else flags[q]? := by
  rw [Vector.getElem?_setIfInBounds]
  by_cases h : q = k
  · rw [if_pos h.symm, if_pos h, if_pos (h ▸ hq)]
  · rw [if_neg (Ne.symm h), if_neg h]

/-- Settles O50: slots 3 k to 3 k + 2 are the codes of the block. -/
theorem readCellOneStoresItsSubregister : Obligations.ReadCellOneStoresItsSubregister := by
  intro k s hpay hchips wf hk hlen
  have k_lt : k.toNat < 6 := hk.trans_le (subregs_le_maxSubregs wf .cell)
  refine ⟨_, exec_readOneOf_completed (kind := .cell) hpay hk hlen, exchangeFrame_completedRead hlen, fun i hi => ?_⟩
  rw [chipOf_completedRead (hchips ▸ hi)]
  refine ⟨fun slot _ => ?_, fun q hq => ?_, countersAfter_readOneOf (kind := .cell) hk hlen wf hi hchips,
    fun f hf hcnt => agreeOn_storeMeasurement hf hcnt _ _ _ _⟩
  · rw [(storeMeasurement_codes ..).1, decodeGroup,
      getElem?_setThree _ (groupCode (groupAt s.cfg (responseOf s) i)) (by omega)]
    split
    case isTrue inside => rw [groupCode_groupAt hlen hi (by omega)]
    case isFalse => rfl
  · rw [cellPec_storeMeasurement, getElem?_setFlag _ _ hq, blockGood_blockOf hlen hi]

/-- Settles O51: slots 3 k to 3 k + 2 are the codes of the block. -/
theorem readAuxOneStoresItsSubregister : Obligations.ReadAuxOneStoresItsSubregister := by
  intro k s hpay hchips wf hk hlen
  have k_lt : k.toNat < 4 := hk.trans_le (subregs_le_maxSubregs wf .aux)
  refine ⟨_, exec_readOneOf_completed (kind := .aux) hpay hk hlen, exchangeFrame_completedRead hlen, fun i hi => ?_⟩
  rw [chipOf_completedRead (hchips ▸ hi)]
  refine ⟨fun slot _ => ?_, fun q hq => ?_, countersAfter_readOneOf (kind := .aux) hk hlen wf hi hchips,
    fun f hf hcnt => agreeOn_storeMeasurement hf hcnt _ _ _ _⟩
  · rw [(storeMeasurement_codes ..).2.1, decodeGroup,
      getElem?_setThree _ (groupCode (groupAt s.cfg (responseOf s) i)) (by omega)]
    split
    case isTrue inside => rw [groupCode_groupAt hlen hi (by omega)]
    case isFalse => rfl
  · rw [auxPec_storeMeasurement, getElem?_setFlag _ _ hq, blockGood_blockOf hlen hi]

/-- Settles O52: sub-register A is decoded to the first three codes, B to the last code and the status bits. -/
theorem readStatOneStoresItsSubregister : Obligations.ReadStatOneStoresItsSubregister := by
  intro k s hpay hchips wf hk hlen
  have k_lt : k.toNat < 2 := hk.trans_le (subregs_le_maxSubregs wf .stat)
  refine ⟨_, exec_readOneOf_completed (kind := .stat) hpay hk hlen, exchangeFrame_completedRead hlen, fun i hi => ?_⟩
  obtain ⟨-, -, other_codes, other_bits⟩ :=
    otherCodesSame_storeMeasurement (kind := .stat) k_lt s.cfg.cntW (groupAt s.cfg (responseOf s) i) (chipOf s i)
  rw [chipOf_completedRead (hchips ▸ hi)]
  refine ⟨?_, fun sub_a => ?_, fun sub_b m hm => ?_, fun q hq => ?_,
    countersAfter_readOneOf (kind := .stat) hk hlen wf hi hchips,
    fun f hf hcnt => agreeOn_storeMeasurement hf hcnt _ _ _ _⟩
  · exact (holdsDecoded_congr fun m hm => byteAt_blockOf hlen hi hm).mpr (holdsDecoded_storeMeasurement k_lt _ _ _)
  · have not_b : k.toNat ≠ 1 := by omega
    exact ⟨(other_codes 3).resolve_left (by omega) |>.resolve_left (by omega), other_bits.resolve_left (by omega)⟩
  · exact (other_codes m).resolve_left (by omega) |>.resolve_left (by omega)
  · rw [statPec_storeMeasurement, getElem?_setFlag _ _ hq, blockGood_blockOf hlen hi]

/-! ### A response of the wrong length -/

theorem readOne_of_length_ne {c : CmdCode} {k id : Nat} {store : Group → Chip → Chip} {s : State}
    (hlen : (responseOf s).length ≠ 8 * s.cfg.n) :
    readOne c k id store s = { s with
      trace := s.trace ++ [.txrx (commandFrame c) (8 * s.cfg.n) (responseOf s) (relOf s.link)]
      answers := s.answers.tail
      draws := s.draws + 1
      results := s.results ++ [⟨.shapeError, k, []⟩] } := by
  rw [readOne_of_not_shapeOk c k id store (beq_false_of_ne hlen)]
  cases hlink : s.link <;> simp [raiseStatus, finish, exchange, busTxRx, linkAfterBus, hlink]

/-- Settles O34: the exchange is over before the shape is checked. -/
theorem shapeErrorStoresNothing : Obligations.ShapeErrorStoresNothing := by
  rintro i s c k (⟨rfl, rfl, rfl⟩ | ⟨rfl, rfl, rfl⟩ | ⟨rfl, rfl, rfl⟩ | ⟨kind, b, rfl, rfl, rfl, hk⟩) hpay hlen
  case inr.inr.inr => rw [exec_readOneOf_eq_readOne hpay hk, readOne_of_length_ne hlen]
  all_goals
    rw [exec_of_wellFormed hpay rfl, effectOf, readOne_of_length_ne hlen]
    rfl

end Sys2Proof.Machine
end

section
/-! PROOFS. Reads in a row: a configuration written and read back (41_frame_builder R163, R166), and the same read
mismatching again and again (44_measurement_parser R286). -/

namespace Sys2Proof.Machine

/-! ### Write, then read back -/

/-- Read from its last block to its first, a write frame is the response of correct blocks of the chips' data. -/
theorem readOrder_writeFrame (cfg : Cfg) (c : CmdCode) (data : Nat → Vector Byte 6) :
    readOrder cfg.n (writeFrame cfg c fun i => (data i).toList) = correctResponse cfg.n fun j => data (chipAt cfg j) := by
  refine List.flatMap_congr fun j hj => ?_
  have j_lt : j < cfg.n := List.mem_range.mp hj
  rw [writeFrame_block (fun i => by simp) (by omega), show cfg.n - 1 - (cfg.n - 1 - j) = j by omega]
  rfl

/-- The state after WRITE_CFG of register r, with the written blocks in read order as the next answer. -/
def echoed (r : CfgReg) (s : State) : State :=
  { effectOf s (.writeCfg r) with
    answers := readOrder s.cfg.n (writeFrame s.cfg (code s (writeCfgName r)) fun i =>
      (cfgGroup r (chipOf s i)).tx.toList) :: s.answers }

section
variable {r : CfgReg} {s : State}

theorem responseOf_echoed : responseOf (echoed r s) =
    correctResponse s.cfg.n fun j => (cfgGroup r (chipOf s (chipAt s.cfg j))).tx :=
  readOrder_writeFrame s.cfg (code s (writeCfgName r)) fun i => (cfgGroup r (chipOf s i)).tx

theorem responseOf_echoed_length : (responseOf (echoed r s)).length = 8 * s.cfg.n := by
  rw [responseOf_echoed, correctResponse_length]

theorem groupAt_echoed (wf : configWellFormed s.cfg = true) {i : Nat} (hi : i < s.cfg.n) :
    groupAt (echoed r s).cfg (responseOf (echoed r s)) i = correctGroup (cfgGroup r (chipOf s i)).tx := by
  rw [responseOf_echoed]
  exact (groupAt_correctResponse _ hi).trans (by rw [chipAt_pos wf hi])

end

/-- Settles O35: the written blocks, read back, are every chip's own bytes with their own PEC. -/
theorem writtenConfigurationReadsBack : Obligations.WrittenConfigurationReadsBack := by
  intro r s wf hpay hchips
  refine ⟨_, _, _, exec_of_wellFormed hpay rfl, rfl, exec_readCfg (s := echoed r s) hpay responseOf_echoed_length, ?_,
    fun i hi => ?_⟩
  · have all_match : mismatches (echoed r s).cfg (responseOf (echoed r s)) (cfgRegId r) = [] :=
      mismatches_eq_nil _ fun i hi => by rw [groupAt_echoed wf hi, groupOk_correctGroup]
    rw [completedRead, all_match]
    rfl
  · rw [chipOf_completedRead (s := echoed r s) (hchips ▸ hi), cfgGroup_storeCfgGroup, groupAt_echoed wf hi,
      groupOk_correctGroup, groupBytes_toList]
    exact ⟨rfl, rfl⟩

/-! ### The same read again and again -/

/-- The reads that count under register id `id`, with a sub-register of the shape. -/
def CountedRead (cfg : Cfg) (req : Instr) (id : Nat) : Prop :=
  (req = .readCfg .a ∧ id = 0) ∨ (req = .readCfg .b ∧ id = 1) ∨
    ∃ kind k, req = readOneOf kind k ∧ id = regId kind k.toNat ∧ k.toNat < subregs cfg kind

theorem exec_countedRead {req : Instr} {id : Nat} {s : State} (hreq : CountedRead s.cfg req id) (hpay : s.payload = [])
    (hchips : s.chips.length = s.cfg.n) (wf : configWellFormed s.cfg = true)
    (hlen : (responseOf s).length = 8 * s.cfg.n) :
    ∃ c t, exec req s = .next t ∧ exchangeFrame c id s t ∧
      ∀ j, j < s.cfg.n → countersAfter s t j id (blockGood (blockOf s.cfg (responseOf s) j)) := by
  obtain ⟨rfl, rfl⟩ | ⟨rfl, rfl⟩ | ⟨kind, k, rfl, rfl, hk⟩ := hreq
  · exact ⟨_, _, exec_readCfg hpay hlen, exchangeFrame_completedRead hlen, fun j hj => countersAfter_readCfg hlen hj hchips⟩
  · exact ⟨_, _, exec_readCfg hpay hlen, exchangeFrame_completedRead hlen, fun j hj => countersAfter_readCfg hlen hj hchips⟩
  · exact ⟨_, _, exec_readOneOf_completed hpay hk hlen, exchangeFrame_completedRead hlen,
      fun j hj => countersAfter_readOneOf hk hlen wf hj hchips⟩

theorem blockGood_eq_false_iff {cfg : Cfg} {response : List Byte} {j : Nat} (hj : j < cfg.n) :
    blockGood (blockOf cfg response j) = false ↔ j ∈ badChips cfg response := by
  simp [badChips, hj]

/-- The counters of t are those of s with q added to the two that the mismatches of chip i count in. -/
def RaisedBy (q i id : Nat) (s t : State) : Prop :=
  ∀ j c, j < s.cfg.n → c < 14 → counterAt t j c =
    if j = i ∧ (c = 0 ∨ c = if id ≤ 1 then 1 else id) then counterAt s j c + q else counterAt s j c

section
variable {req : Instr} {id i : Nat} {s : State} {rest : List Request} {response : List Byte} {more : List (List Byte)}

/-- One step on a pending read that chip i alone mismatches, below saturation. -/
theorem step_countedRead (hreq : CountedRead s.cfg req id) (hchips : s.chips.length = s.cfg.n)
    (wf : configWellFormed s.cfg = true) (hrequests : s.requests = ⟨encode req, []⟩ :: rest)
    (hanswers : s.answers = response :: more) (hlen : response.length = 8 * s.cfg.n)
    (hbad : badChips s.cfg response = [i]) (hglobal : counterAt s i 0 < 2 ^ s.cfg.cntW - 1)
    (hown : counterAt s i (if id ≤ 1 then 1 else id) < 2 ^ s.cfg.cntW - 1) :
    ∃ t, step s = .next t ∧ t.cfg = s.cfg ∧ t.chips.length = s.chips.length ∧ t.requests = rest ∧ t.answers = more ∧
      RaisedBy 1 i id s t := by
  have answered : responseOf (presented s []) = response := by simp [responseOf, presented, hanswers]
  obtain ⟨c, t, ran, ⟨frame, chips_length⟩, counted⟩ :=
    exec_countedRead (s := presented s []) hreq rfl hchips wf (answered.symm ▸ hlen)
  refine ⟨t, ?_, by rw [frame]; rfl, chips_length, ?_, ?_, fun j c hj hc => ?_⟩
  · rw [step_of_pending wf hrequests, runWord_of_request (decode_encode req), ran]
  · rw [frame]
    exact congrArg List.tail hrequests
  · rw [frame]
    exact congrArg List.tail hanswers
  · have count := counted j hj c hc
    rw [answered] at count
    have good_iff : blockGood (blockOf (presented s []).cfg response j) = false ↔ j = i :=
      (blockGood_eq_false_iff hj).trans (by rw [hbad, List.mem_singleton])
    simp only [good_iff] at count
    rw [count]
    by_cases counts : j = i ∧ (c = 0 ∨ c = if id ≤ 1 then 1 else id)
    · have below : counterAt s j c ≠ 2 ^ s.cfg.cntW - 1 := by
        rcases counts with ⟨rfl, rfl | rfl⟩
        · exact hglobal.ne
        · exact hown.ne
      rw [if_pos counts, if_pos counts]
      exact if_neg below
    · rw [if_neg counts, if_neg counts]
      rfl

theorem run_succ_of_step {M : Host.Core} {s u : M.State} (h : M.step s = .next u) (q : Nat) :
    M.run (q + 1) s = M.run q u := by
  rw [Host.Core.run, h]

/-- q steps on q pending reads. -/
theorem run_countedRead (q : Nat) : ∀ s : State, CountedRead s.cfg req id → s.chips.length = s.cfg.n →
    configWellFormed s.cfg = true → s.requests = List.replicate q ⟨encode req, []⟩ ++ rest →
    s.answers = List.replicate q response ++ more → response.length = 8 * s.cfg.n → i < s.cfg.n →
    id ≤ 13 → badChips s.cfg response = [i] → counterAt s i 0 + q < 2 ^ s.cfg.cntW →
    counterAt s i (if id ≤ 1 then 1 else id) + q < 2 ^ s.cfg.cntW →
    ∃ t, Host.Core.run Sys2Proof.core q s = .next t ∧ RaisedBy q i id s t := by
  induction q with
  | zero => exact fun s _ _ _ _ _ _ _ _ _ _ _ => ⟨s, rfl, fun j c _ _ => by simp⟩
  | succ q ih =>
    intro s hreq hchips wf hrequests hanswers hlen hi hid hbad hglobal hown
    obtain ⟨u, stepped, cfg_eq, chips_eq, requests_eq, answers_eq, raised⟩ :=
      step_countedRead hreq hchips wf hrequests hanswers hlen hbad (by omega) (by omega)
    have global_u : counterAt u i 0 = counterAt s i 0 + 1 :=
      (raised i 0 hi (by decide)).trans (if_pos ⟨rfl, .inl rfl⟩)
    have own_u : counterAt u i (if id ≤ 1 then 1 else id) = counterAt s i (if id ≤ 1 then 1 else id) + 1 :=
      (raised i _ hi (by split <;> omega)).trans (if_pos ⟨rfl, .inr rfl⟩)
    rw [← cfg_eq] at hreq hchips wf hlen hi hbad hglobal hown
    obtain ⟨t, ran, raised_t⟩ := ih u hreq (chips_eq.trans hchips) wf requests_eq answers_eq hlen hi hid hbad
      (by omega) (by omega)
    refine ⟨t, ?_, fun j c hj hc => ?_⟩
    · exact (run_succ_of_step stepped q).trans ran
    · rw [raised_t j c (cfg_eq ▸ hj) hc, raised j c hj hc]
      by_cases counts : j = i ∧ (c = 0 ∨ c = if id ≤ 1 then 1 else id)
      · simp only [if_pos counts]
        omega
      · simp only [if_neg counts]

end

theorem CountedRead.id_le {cfg : Cfg} {req : Instr} {id : Nat} (h : CountedRead cfg req id)
    (wf : configWellFormed cfg = true) : id ≤ 13 := by
  obtain ⟨-, rfl⟩ | ⟨-, rfl⟩ | ⟨kind, k, -, rfl, hk⟩ := h
  · decide
  · decide
  · exact regId_le (hk.trans_le (subregs_le_maxSubregs wf kind))

/-- Settles O57: q steps of one mismatch each. -/
theorem repeatedMismatchesAreCountedExactly : Obligations.RepeatedMismatchesAreCountedExactly :=
  fun _ _ q _ s _ _ _ hreq hchips wf hrequests hanswers hlen hi hbad hglobal hown =>
    run_countedRead q s hreq hchips wf hrequests hanswers hlen hi (CountedRead.id_le hreq wf) hbad hglobal hown

end Sys2Proof.Machine
end
